-- ==== Sys2Proof/Word.lean ====
section
/-!
DEFINITION. The bit vectors of the block: the widths of 00_scope.md rule R4 and 30_encoding.md rule R60.
Every value is unsigned (R6) and bit 0 is the least significant bit (R5), as in `BitVec`.
-/

namespace Sys2Proof

/-- A 3-bit phase ID: the contents of the `phase` register, of a LUT word, and of a ROM address (R4 `PHASE_W`, R60). -/
abbrev PhaseCode := BitVec 3

/-- The 4-bit input condition on the `cond` port (R4 `COND_W`, R27). -/
abbrev Cond := BitVec 4

/-- The pattern of one lamp channel (R4 `CHAN_W`). -/
abbrev Channel := BitVec 8

/-- A dwell, and the seconds counter `sec_left` (R4 `DWELL_W`). -/
abbrev Seconds := BitVec 3

end Sys2Proof
end

