-- ==== Sys2Proof/Config.lean ====
section
/-!
DEFINITION. What an implementation fixes (00_scope.md rule R4) and what the environment chooses freely
(60_exceptions.md rule R178). Nothing in this file has a number where the spec leaves the number open.
-/

namespace Sys2Proof

/-- The input of one clock cycle, `I_n = (rst_n, cond_n)` (R7, R26). -/
structure Input where
  /-- The synchronous, active-high reset port. -/
  rst : Bool
  /-- The raw 4-bit input condition; no polarity is assigned to its bits (R28). -/
  cond : Cond
deriving DecidableEq, Repr, Inhabited

/-- The implementation's parameters that the spec leaves open (R4; 93_implementation_defined.md U7 and U8).
They are arguments of the step (R11): no operation writes them. -/
structure Params where
  /-- `CPS`, the clock cycles of one dwell second, a natural number of at least 1 (R4). -/
  cps : Nat
  /-- `HAS_PHASE_O`: whether the observation port `phase_o` is built (U8; R179). -/
  hasPhaseO : Bool
deriving DecidableEq, Repr

/-- OPEN (R4, U7): one less than the `CPS` of the machine that `State.reset` stands for. It has no body: a claim
about runs from reset is a claim for every `CPS` of at least 1. Log entry 1. -/
opaque Config.cpsPred : Nat

/-- OPEN (R178; U1 `any value`): what the environment drives in cycle `n` when the state lists no stimulus for it.
It has no body: a claim holds whatever the environment drives. Log entry 2. -/
opaque Config.freeInput : Nat → Input

/-- The `CPS` of the reset state's machine: at least 1 by construction (R4). -/
def Config.cps : Nat := Config.cpsPred + 1

/-- The parameters of the reset state's machine; `phase_o` is present by default (U8). -/
def Config.params : Params := { cps := Config.cps, hasPhaseO := true }

end Sys2Proof
end

