-- ==== Sys2Proof/Syntax.lean ====
section
/-!
DEFINITION. The block's syntax: phase names (30_encoding.md rule R63), the formats (R60), the recognised
"instructions" (one constructor per row of spec/opcode_table.json), and the stimuli (R69).
The block executes no instruction stream: these are the three things its decoders recognise (30_encoding.md,
preamble). Operands have the width of their field, so an operand outside it cannot be written.
-/

namespace Sys2Proof

/-- The seven named phases, in the order of their codes 0 to 6 (R63). -/
inductive Phase where
  | secondaryGo
  | secondaryWait
  | primaryGo
  | primaryWait
  | secondaryWalk
  | primaryWalk
  | secondaryGoShort
deriving DecidableEq, Repr

/-- One word of the phase ROM, format `ROM_WORD` (R62), by its fields. -/
structure RomWord where
  /-- DOC's `dwell_seconds`. -/
  dwell : Seconds
  /-- DOC's `road_a_output`. -/
  chanA : Channel
  /-- DOC's `road_b_output`. -/
  chanB : Channel
deriving DecidableEq, Repr

/-- The three address spaces whose words name an instruction (R60). -/
inductive Format where
  /-- `LUT_ADDR`: `{phase[2:0], cond[3:0]}`, 7 bits (R61). -/
  | lutAddr
  /-- `ROM_ADDR`: `phase[2:0]`, 3 bits (R62). -/
  | romAddr
  /-- `SEQ_SEL`: `{rst, sec_end, last_sec}`, 3 bits (R65). -/
  | seqSel
deriving DecidableEq, Repr

/-- A word together with the space it is an address of. The spaces share bit patterns (the word 0 is
`LUT.SecondaryGo.0`, `ROM.SecondaryGo` and `SEQ.COUNT`), so a word means nothing without its format. -/
structure CodeWord where
  format : Format
  bits : Nat
deriving DecidableEq, Repr

/-- Why a word is rejected: it has a bit that its format does not have. -/
inductive DecodeError where
  | lutAddrTooWide
  | romAddrTooWide
  | seqSelTooWide
deriving DecidableEq, Repr

/-- The instructions: one constructor per row of spec/opcode_table.json. The rows whose mask leaves bits free carry
those bits as operands, so that no bit of a word is dropped. -/
inductive Instr where
  | lutSecondaryGo0
  | lutSecondaryGo1
  | lutSecondaryGo2
  | lutSecondaryGo3
  | lutSecondaryGo4
  | lutSecondaryGo5
  | lutSecondaryGo6
  | lutSecondaryGo7
  | lutSecondaryGo8
  | lutSecondaryGo9
  | lutSecondaryGoA
  | lutSecondaryGoB
  | lutSecondaryGoC
  | lutSecondaryGoD
  | lutSecondaryGoE
  | lutSecondaryGoF
  | lutSecondaryWait0
  | lutSecondaryWait1
  | lutSecondaryWait2
  | lutSecondaryWait3
  | lutSecondaryWait4
  | lutSecondaryWait5
  | lutSecondaryWait6
  | lutSecondaryWait7
  | lutSecondaryWait8
  | lutSecondaryWait9
  | lutSecondaryWaitA
  | lutSecondaryWaitB
  | lutSecondaryWaitC
  | lutSecondaryWaitD
  | lutSecondaryWaitE
  | lutSecondaryWaitF
  | lutPrimaryGo0
  | lutPrimaryGo1
  | lutPrimaryGo2
  | lutPrimaryGo3
  | lutPrimaryGo4
  | lutPrimaryGo5
  | lutPrimaryGo6
  | lutPrimaryGo7
  | lutPrimaryGo8
  | lutPrimaryGo9
  | lutPrimaryGoA
  | lutPrimaryGoB
  | lutPrimaryGoC
  | lutPrimaryGoD
  | lutPrimaryGoE
  | lutPrimaryGoF
  | lutPrimaryWait0
  | lutPrimaryWait1
  | lutPrimaryWait2
  | lutPrimaryWait3
  | lutPrimaryWait4
  | lutPrimaryWait5
  | lutPrimaryWait6
  | lutPrimaryWait7
  | lutPrimaryWait8
  | lutPrimaryWait9
  | lutPrimaryWaitA
  | lutPrimaryWaitB
  | lutPrimaryWaitC
  | lutPrimaryWaitD
  | lutPrimaryWaitE
  | lutPrimaryWaitF
  | lutSecondaryWalk0
  | lutSecondaryWalk1
  | lutSecondaryWalk2
  | lutSecondaryWalk3
  | lutSecondaryWalk4
  | lutSecondaryWalk5
  | lutSecondaryWalk6
  | lutSecondaryWalk7
  | lutSecondaryWalk8
  | lutSecondaryWalk9
  | lutSecondaryWalkA
  | lutSecondaryWalkB
  | lutSecondaryWalkC
  | lutSecondaryWalkD
  | lutSecondaryWalkE
  | lutSecondaryWalkF
  | lutPrimaryWalk0
  | lutPrimaryWalk1
  | lutPrimaryWalk2
  | lutPrimaryWalk3
  | lutPrimaryWalk4
  | lutPrimaryWalk5
  | lutPrimaryWalk6
  | lutPrimaryWalk7
  | lutPrimaryWalk8
  | lutPrimaryWalk9
  | lutPrimaryWalkA
  | lutPrimaryWalkB
  | lutPrimaryWalkC
  | lutPrimaryWalkD
  | lutPrimaryWalkE
  | lutPrimaryWalkF
  | lutSecondaryGoShort0
  | lutSecondaryGoShort1
  | lutSecondaryGoShort2
  | lutSecondaryGoShort3
  | lutSecondaryGoShort4
  | lutSecondaryGoShort5
  | lutSecondaryGoShort6
  | lutSecondaryGoShort7
  | lutSecondaryGoShort8
  | lutSecondaryGoShort9
  | lutSecondaryGoShortA
  | lutSecondaryGoShortB
  | lutSecondaryGoShortC
  | lutSecondaryGoShortD
  | lutSecondaryGoShortE
  | lutSecondaryGoShortF
  | lutIllegal (cond : Cond)
  | romSecondaryGo
  | romSecondaryWait
  | romPrimaryGo
  | romPrimaryWait
  | romSecondaryWalk
  | romPrimaryWalk
  | romSecondaryGoShort
  | romIllegal
  | seqReset (secEnd lastSec : Bool)
  | seqAdvance
  | seqSecond
  | seqCount (lastSec : Bool)
deriving DecidableEq, Repr

/-- A cycle-level program (R69): one input per clock cycle. -/
abbrev CycleProgram := List Input

/-- A dwell-level program (R69): the value of `cond` at each ADVANCE edge. -/
abbrev DwellProgram := List Cond

end Sys2Proof
end

