-- ==== Sys2Proof/WellFormed.lean ====
section
/-!
DEFINITION. Which raw data are well formed. An instruction term is well formed by its type (each operand has the width of
its field); the checks here are on the raw words that a decoder is given and on the parameters.
-/

namespace Sys2Proof

/-- The width in bits of each address format (30_encoding.md rule R60). -/
def Format.width : Format → Nat
  | .lutAddr => 7
  | .romAddr => 3
  | .seqSel => 3

/-- The word has no bit beyond its format's width: there is no variable-length form (R60, R68). -/
def CodeWord.wf (w : CodeWord) : Bool := decide (w.bits < 2 ^ w.format.width)

/-- `CPS` is a natural number of at least 1 (00_scope.md rule R4). -/
def Params.wf (p : Params) : Bool := decide (1 ≤ p.cps)

end Sys2Proof
end

