-- ==== Sys2Proof/Decode.lean ====
section
/-!
DEFINITION. The decoders of the block (30_encoding.md rules R60 to R66), total and rejecting by name, and after them the
encoders, written from the same tables.
-/

namespace Sys2Proof

/-! ### Phase codes, LUT words and ROM words -/

/-- The 3-bit code of a phase, its DOC index (R63); also the LUT word that names it as a successor (R64). -/
def Phase.code : Phase → PhaseCode
  | .secondaryGo => 0
  | .secondaryWait => 1
  | .primaryGo => 2
  | .primaryWait => 3
  | .secondaryWalk => 4
  | .primaryWalk => 5
  | .secondaryGoShort => 6

/-- The phase that a 3-bit code names; code 7 names none (R22, R63). -/
def Phase.ofCode (c : PhaseCode) : Option Phase :=
  match c.toNat with
  | 0 => some .secondaryGo
  | 1 => some .secondaryWait
  | 2 => some .primaryGo
  | 3 => some .primaryWait
  | 4 => some .secondaryWalk
  | 5 => some .primaryWalk
  | 6 => some .secondaryGoShort
  | _ => none

/-- `ROM(p)[18:0] = {dwell[2:0], chanA[7:0], chanB[7:0]}` (R62). -/
def RomWord.pack (w : RomWord) : BitVec 19 := w.dwell ++ w.chanA ++ w.chanB

/-- The fields of a 19-bit ROM word (R60 `ROM_WORD`). -/
def RomWord.unpack (w : BitVec 19) : RomWord :=
  { dwell := w.extractLsb' 16 3, chanA := w.extractLsb' 8 8, chanB := w.extractLsb' 0 8 }

/-- `lut_addr[6:0] := {phase[2:0], cond[3:0]}` (R61, R46). -/
def lutAddr (phase : PhaseCode) (cond : Cond) : BitVec 7 := phase ++ cond

/-! ### Decoders -/

/-- The LUT entries of one row, in the order of `cond` (opcode table rows `LUT.<phase>.0` to `.F`). -/
def lutRowInstrs : Phase → Vector Instr 16
  | .secondaryGo =>
    #v[.lutSecondaryGo0, .lutSecondaryGo1, .lutSecondaryGo2, .lutSecondaryGo3,
       .lutSecondaryGo4, .lutSecondaryGo5, .lutSecondaryGo6, .lutSecondaryGo7,
       .lutSecondaryGo8, .lutSecondaryGo9, .lutSecondaryGoA, .lutSecondaryGoB,
       .lutSecondaryGoC, .lutSecondaryGoD, .lutSecondaryGoE, .lutSecondaryGoF]
  | .secondaryWait =>
    #v[.lutSecondaryWait0, .lutSecondaryWait1, .lutSecondaryWait2, .lutSecondaryWait3,
       .lutSecondaryWait4, .lutSecondaryWait5, .lutSecondaryWait6, .lutSecondaryWait7,
       .lutSecondaryWait8, .lutSecondaryWait9, .lutSecondaryWaitA, .lutSecondaryWaitB,
       .lutSecondaryWaitC, .lutSecondaryWaitD, .lutSecondaryWaitE, .lutSecondaryWaitF]
  | .primaryGo =>
    #v[.lutPrimaryGo0, .lutPrimaryGo1, .lutPrimaryGo2, .lutPrimaryGo3,
       .lutPrimaryGo4, .lutPrimaryGo5, .lutPrimaryGo6, .lutPrimaryGo7,
       .lutPrimaryGo8, .lutPrimaryGo9, .lutPrimaryGoA, .lutPrimaryGoB,
       .lutPrimaryGoC, .lutPrimaryGoD, .lutPrimaryGoE, .lutPrimaryGoF]
  | .primaryWait =>
    #v[.lutPrimaryWait0, .lutPrimaryWait1, .lutPrimaryWait2, .lutPrimaryWait3,
       .lutPrimaryWait4, .lutPrimaryWait5, .lutPrimaryWait6, .lutPrimaryWait7,
       .lutPrimaryWait8, .lutPrimaryWait9, .lutPrimaryWaitA, .lutPrimaryWaitB,
       .lutPrimaryWaitC, .lutPrimaryWaitD, .lutPrimaryWaitE, .lutPrimaryWaitF]
  | .secondaryWalk =>
    #v[.lutSecondaryWalk0, .lutSecondaryWalk1, .lutSecondaryWalk2, .lutSecondaryWalk3,
       .lutSecondaryWalk4, .lutSecondaryWalk5, .lutSecondaryWalk6, .lutSecondaryWalk7,
       .lutSecondaryWalk8, .lutSecondaryWalk9, .lutSecondaryWalkA, .lutSecondaryWalkB,
       .lutSecondaryWalkC, .lutSecondaryWalkD, .lutSecondaryWalkE, .lutSecondaryWalkF]
  | .primaryWalk =>
    #v[.lutPrimaryWalk0, .lutPrimaryWalk1, .lutPrimaryWalk2, .lutPrimaryWalk3,
       .lutPrimaryWalk4, .lutPrimaryWalk5, .lutPrimaryWalk6, .lutPrimaryWalk7,
       .lutPrimaryWalk8, .lutPrimaryWalk9, .lutPrimaryWalkA, .lutPrimaryWalkB,
       .lutPrimaryWalkC, .lutPrimaryWalkD, .lutPrimaryWalkE, .lutPrimaryWalkF]
  | .secondaryGoShort =>
    #v[.lutSecondaryGoShort0, .lutSecondaryGoShort1, .lutSecondaryGoShort2, .lutSecondaryGoShort3,
       .lutSecondaryGoShort4, .lutSecondaryGoShort5, .lutSecondaryGoShort6, .lutSecondaryGoShort7,
       .lutSecondaryGoShort8, .lutSecondaryGoShort9, .lutSecondaryGoShortA, .lutSecondaryGoShortB,
       .lutSecondaryGoShortC, .lutSecondaryGoShortD, .lutSecondaryGoShortE, .lutSecondaryGoShortF]

/-- A LUT address: row `phase`, column `cond`; the sixteen addresses of row 7 are the illegal ones (R46, R108). -/
def decodeLutAddr (a : BitVec 7) : Instr :=
  let cond : Cond := a.extractLsb' 0 4
  match Phase.ofCode (a.extractLsb' 4 3) with
  | some p => (lutRowInstrs p).get cond.toFin
  | none => .lutIllegal cond

/-- A phase ROM address: one word per phase, address 7 is illegal (R62, R87). -/
def decodeRomAddr (a : PhaseCode) : Instr :=
  match Phase.ofCode a with
  | some .secondaryGo => .romSecondaryGo
  | some .secondaryWait => .romSecondaryWait
  | some .primaryGo => .romPrimaryGo
  | some .primaryWait => .romPrimaryWait
  | some .secondaryWalk => .romSecondaryWalk
  | some .primaryWalk => .romPrimaryWalk
  | some .secondaryGoShort => .romSecondaryGoShort
  | none => .romIllegal

/-- The sequencer's selector `{rst, sec_end, last_sec}` (R65): `1xx` RESET, `011` ADVANCE, `010` SECOND, `00x` COUNT. -/
def decodeSeqSel (sel : BitVec 3) : Instr :=
  match sel.getLsbD 2, sel.getLsbD 1, sel.getLsbD 0 with
  | true, secEnd, lastSec => .seqReset secEnd lastSec
  | false, true, true => .seqAdvance
  | false, true, false => .seqSecond
  | false, false, lastSec => .seqCount lastSec

/-- The decoder: total on every word of every format. A word with a bit beyond its format's width is rejected by name;
every other word has one meaning (R67). -/
def decode (w : CodeWord) : Except DecodeError Instr :=
  match w.format with
  | .lutAddr => if w.wf then .ok (decodeLutAddr (BitVec.ofNat 7 w.bits)) else .error .lutAddrTooWide
  | .romAddr => if w.wf then .ok (decodeRomAddr (BitVec.ofNat 3 w.bits)) else .error .romAddrTooWide
  | .seqSel => if w.wf then .ok (decodeSeqSel (BitVec.ofNat 3 w.bits)) else .error .seqSelTooWide

/-- The seven bits of a table word that are a LUT address. An untagged table word is read in the LUT address space: the
three spaces share the words 0 to 7 and the host's word carries no format (log entry 3). A byte's bit 7 is no bit of any
format. -/
def tableLutBits (w : Nat) : Nat := w % 128

/-- The instruction the decoder reads from a row's bits, numbered as spec/opcode_table.json numbers them. -/
def decodeTableWord (nbits w : Nat) : Option Instr :=
  if nbits ≤ 8 then
    match decode { format := .lutAddr, bits := tableLutBits w } with
    | .ok i => some i
    | .error _ => none
  else none

/-! ### Encoders -/

/-- The word of a LUT address. -/
def lutWord (bits : Nat) : CodeWord := { format := .lutAddr, bits := bits }

/-- The word of a phase ROM address. -/
def romWord (bits : Nat) : CodeWord := { format := .romAddr, bits := bits }

/-- The word of a sequencer selector. -/
def seqWord (bits : Nat) : CodeWord := { format := .seqSel, bits := bits }

/-- The word of each instruction, from the `match` column of the opcode table with the free bits put in. -/
def encode : Instr → CodeWord
  | .lutSecondaryGo0 => lutWord 0b000_0000
  | .lutSecondaryGo1 => lutWord 0b000_0001
  | .lutSecondaryGo2 => lutWord 0b000_0010
  | .lutSecondaryGo3 => lutWord 0b000_0011
  | .lutSecondaryGo4 => lutWord 0b000_0100
  | .lutSecondaryGo5 => lutWord 0b000_0101
  | .lutSecondaryGo6 => lutWord 0b000_0110
  | .lutSecondaryGo7 => lutWord 0b000_0111
  | .lutSecondaryGo8 => lutWord 0b000_1000
  | .lutSecondaryGo9 => lutWord 0b000_1001
  | .lutSecondaryGoA => lutWord 0b000_1010
  | .lutSecondaryGoB => lutWord 0b000_1011
  | .lutSecondaryGoC => lutWord 0b000_1100
  | .lutSecondaryGoD => lutWord 0b000_1101
  | .lutSecondaryGoE => lutWord 0b000_1110
  | .lutSecondaryGoF => lutWord 0b000_1111
  | .lutSecondaryWait0 => lutWord 0b001_0000
  | .lutSecondaryWait1 => lutWord 0b001_0001
  | .lutSecondaryWait2 => lutWord 0b001_0010
  | .lutSecondaryWait3 => lutWord 0b001_0011
  | .lutSecondaryWait4 => lutWord 0b001_0100
  | .lutSecondaryWait5 => lutWord 0b001_0101
  | .lutSecondaryWait6 => lutWord 0b001_0110
  | .lutSecondaryWait7 => lutWord 0b001_0111
  | .lutSecondaryWait8 => lutWord 0b001_1000
  | .lutSecondaryWait9 => lutWord 0b001_1001
  | .lutSecondaryWaitA => lutWord 0b001_1010
  | .lutSecondaryWaitB => lutWord 0b001_1011
  | .lutSecondaryWaitC => lutWord 0b001_1100
  | .lutSecondaryWaitD => lutWord 0b001_1101
  | .lutSecondaryWaitE => lutWord 0b001_1110
  | .lutSecondaryWaitF => lutWord 0b001_1111
  | .lutPrimaryGo0 => lutWord 0b010_0000
  | .lutPrimaryGo1 => lutWord 0b010_0001
  | .lutPrimaryGo2 => lutWord 0b010_0010
  | .lutPrimaryGo3 => lutWord 0b010_0011
  | .lutPrimaryGo4 => lutWord 0b010_0100
  | .lutPrimaryGo5 => lutWord 0b010_0101
  | .lutPrimaryGo6 => lutWord 0b010_0110
  | .lutPrimaryGo7 => lutWord 0b010_0111
  | .lutPrimaryGo8 => lutWord 0b010_1000
  | .lutPrimaryGo9 => lutWord 0b010_1001
  | .lutPrimaryGoA => lutWord 0b010_1010
  | .lutPrimaryGoB => lutWord 0b010_1011
  | .lutPrimaryGoC => lutWord 0b010_1100
  | .lutPrimaryGoD => lutWord 0b010_1101
  | .lutPrimaryGoE => lutWord 0b010_1110
  | .lutPrimaryGoF => lutWord 0b010_1111
  | .lutPrimaryWait0 => lutWord 0b011_0000
  | .lutPrimaryWait1 => lutWord 0b011_0001
  | .lutPrimaryWait2 => lutWord 0b011_0010
  | .lutPrimaryWait3 => lutWord 0b011_0011
  | .lutPrimaryWait4 => lutWord 0b011_0100
  | .lutPrimaryWait5 => lutWord 0b011_0101
  | .lutPrimaryWait6 => lutWord 0b011_0110
  | .lutPrimaryWait7 => lutWord 0b011_0111
  | .lutPrimaryWait8 => lutWord 0b011_1000
  | .lutPrimaryWait9 => lutWord 0b011_1001
  | .lutPrimaryWaitA => lutWord 0b011_1010
  | .lutPrimaryWaitB => lutWord 0b011_1011
  | .lutPrimaryWaitC => lutWord 0b011_1100
  | .lutPrimaryWaitD => lutWord 0b011_1101
  | .lutPrimaryWaitE => lutWord 0b011_1110
  | .lutPrimaryWaitF => lutWord 0b011_1111
  | .lutSecondaryWalk0 => lutWord 0b100_0000
  | .lutSecondaryWalk1 => lutWord 0b100_0001
  | .lutSecondaryWalk2 => lutWord 0b100_0010
  | .lutSecondaryWalk3 => lutWord 0b100_0011
  | .lutSecondaryWalk4 => lutWord 0b100_0100
  | .lutSecondaryWalk5 => lutWord 0b100_0101
  | .lutSecondaryWalk6 => lutWord 0b100_0110
  | .lutSecondaryWalk7 => lutWord 0b100_0111
  | .lutSecondaryWalk8 => lutWord 0b100_1000
  | .lutSecondaryWalk9 => lutWord 0b100_1001
  | .lutSecondaryWalkA => lutWord 0b100_1010
  | .lutSecondaryWalkB => lutWord 0b100_1011
  | .lutSecondaryWalkC => lutWord 0b100_1100
  | .lutSecondaryWalkD => lutWord 0b100_1101
  | .lutSecondaryWalkE => lutWord 0b100_1110
  | .lutSecondaryWalkF => lutWord 0b100_1111
  | .lutPrimaryWalk0 => lutWord 0b101_0000
  | .lutPrimaryWalk1 => lutWord 0b101_0001
  | .lutPrimaryWalk2 => lutWord 0b101_0010
  | .lutPrimaryWalk3 => lutWord 0b101_0011
  | .lutPrimaryWalk4 => lutWord 0b101_0100
  | .lutPrimaryWalk5 => lutWord 0b101_0101
  | .lutPrimaryWalk6 => lutWord 0b101_0110
  | .lutPrimaryWalk7 => lutWord 0b101_0111
  | .lutPrimaryWalk8 => lutWord 0b101_1000
  | .lutPrimaryWalk9 => lutWord 0b101_1001
  | .lutPrimaryWalkA => lutWord 0b101_1010
  | .lutPrimaryWalkB => lutWord 0b101_1011
  | .lutPrimaryWalkC => lutWord 0b101_1100
  | .lutPrimaryWalkD => lutWord 0b101_1101
  | .lutPrimaryWalkE => lutWord 0b101_1110
  | .lutPrimaryWalkF => lutWord 0b101_1111
  | .lutSecondaryGoShort0 => lutWord 0b110_0000
  | .lutSecondaryGoShort1 => lutWord 0b110_0001
  | .lutSecondaryGoShort2 => lutWord 0b110_0010
  | .lutSecondaryGoShort3 => lutWord 0b110_0011
  | .lutSecondaryGoShort4 => lutWord 0b110_0100
  | .lutSecondaryGoShort5 => lutWord 0b110_0101
  | .lutSecondaryGoShort6 => lutWord 0b110_0110
  | .lutSecondaryGoShort7 => lutWord 0b110_0111
  | .lutSecondaryGoShort8 => lutWord 0b110_1000
  | .lutSecondaryGoShort9 => lutWord 0b110_1001
  | .lutSecondaryGoShortA => lutWord 0b110_1010
  | .lutSecondaryGoShortB => lutWord 0b110_1011
  | .lutSecondaryGoShortC => lutWord 0b110_1100
  | .lutSecondaryGoShortD => lutWord 0b110_1101
  | .lutSecondaryGoShortE => lutWord 0b110_1110
  | .lutSecondaryGoShortF => lutWord 0b110_1111
  | .lutIllegal c => lutWord (0b111_0000 + c.toNat)
  | .romSecondaryGo => romWord 0b000
  | .romSecondaryWait => romWord 0b001
  | .romPrimaryGo => romWord 0b010
  | .romPrimaryWait => romWord 0b011
  | .romSecondaryWalk => romWord 0b100
  | .romPrimaryWalk => romWord 0b101
  | .romSecondaryGoShort => romWord 0b110
  | .romIllegal => romWord 0b111
  | .seqReset secEnd lastSec => seqWord (0b100 + 2 * secEnd.toNat + lastSec.toNat)
  | .seqAdvance => seqWord 0b011
  | .seqSecond => seqWord 0b010
  | .seqCount lastSec => seqWord (0b000 + lastSec.toNat)

end Sys2Proof
end

