-- ==== Sys2Proof/Machine/State.lean ====
section
/-!
DEFINITION. The machine's state as plain data, its faults, and the state after reset (10_state.md rules R20 to R34).
-/

namespace Sys2Proof.Machine

/-- The state during one clock cycle. `phase`, `secLeft` and `pre` are the block's three registers (R20). The other fields
are the model's own: the parameters (arguments of the step, R11), the ROM's data output (which holds the output ports'
values), and the environment (R178). -/
structure State where
  /-- `phase`, 3 bits: the phase code; 0 to 6 are legal (R21, R22). -/
  phase : PhaseCode
  /-- `sec_left`, 3 bits: the dwell seconds left, the one in progress included; 1 to 7 are legal (R23). -/
  secLeft : Seconds
  /-- `pre`, `PRE_W` bits: the clock cycles done in this second; 0 to `CPS - 1` are legal (R24). The width depends on
  `CPS`, so it is a number; every write keeps it below `2 ^ PRE_W` (`State.setPre`). -/
  pre : Nat
  /-- The word on the phase ROM's data output in this cycle: it drives the lamp ports (R120 to R122). In the terms of
  R124 it is the output register, loaded with `ROM(next)` at the edge that loads `phase`. -/
  romData : RomWord
  /-- The implementation's parameters `CPS` and `HAS_PHASE_O` (R4, U7, U8). No operation writes them. -/
  params : Params
  /-- The inputs of this cycle and of the cycles after it, as far as they are given: a cycle-level program (R69). Where it
  is empty the input is free (`Config.freeInput`). -/
  stimulus : CycleProgram
  /-- The cycle number `n` (R7), which a fault records (R171). The block has no such counter (R177). -/
  cycle : Nat
deriving DecidableEq, Repr

/-- What a fault records: the whole register state and the cycle number (R171). -/
structure FaultRecord where
  phase : PhaseCode
  secLeft : Seconds
  pre : Nat
  cycle : Nat
deriving DecidableEq, Repr

/-- The three model faults (R171). They end the run: there is no next state, no handler and no recovery (R172). Each is
safe: the model stops where a build's behaviour is implementation-defined (93_implementation_defined.md U3). -/
inductive Fault where
  /-- Code 1. Raised by the state check when `phase` = 7 and `rst` = 0, and by a LUT or ROM read of row 7. Safe. -/
  | illegalPhase (record : FaultRecord)
  /-- Code 2. Raised by the state check when `sec_left` = 0 and `rst` = 0. Safe. -/
  | illegalDwellCount (record : FaultRecord)
  /-- Code 3. Raised by the state check when `pre` is `CPS` or more and `rst` = 0. Safe. -/
  | illegalPrescale (record : FaultRecord)
deriving DecidableEq, Repr

/-- Why an instruction is refused. Nothing is refused at run time (R13). -/
inductive Refusal where
  /-- The instruction has no meaning yet; raised only by an arm of `exec`, of which none does. Safe. -/
  | notModelled (mnemonic : String)
deriving DecidableEq, Repr

/-- The state right after the last reset edge: `S_0` = (0, 7, 0), with the lamps of SecondaryGo (R34, R125, R142), for
whatever `CPS` the implementation has and whatever the environment drives. -/
def State.reset : State :=
  { phase := 0
    secLeft := 7
    pre := 0
    romData := { dwell := 7, chanA := 0x10, chanB := 0x02 }
    params := Config.params
    stimulus := []
    cycle := 0 }

end Sys2Proof.Machine
end

