-- ==== Sys2Proof/Machine/Operands.lean ====
section
/-!
DEFINITION. What an operation reads: the input ports of the cycle, one line of the input condition, and the registers as a
fault records them. There are no other operand forms: every operand is a whole register or port (R42, R61).
-/

namespace Sys2Proof.Machine

/-- `I_n = (rst_n, cond_n)`: the listed stimulus, or the free input of the cycle where none is listed (R7, R178; log
entry 2). -/
def State.input (s : State) : Input := s.stimulus.headD (Config.freeInput s.cycle)

/-- The input `n` cycles after the current one. -/
def State.inputAt (s : State) (n : Nat) : Input := s.stimulus.getD n (Config.freeInput (s.cycle + n))

/-- `Sample()`: `cond[3:0]` of the current cycle as one 4-bit snapshot (R8, R43). -/
def State.sample (s : State) : Cond := s.input.cond

/-- `cond[0]`: the primary-road walk button's line, raw (R27, R28). -/
def primaryButtonLine (c : Cond) : Bool := c.getLsbD 0

/-- `cond[1]`: the secondary-road walk button's line, raw (R27, R28). -/
def secondaryButtonLine (c : Cond) : Bool := c.getLsbD 1

/-- `cond[2]`: the primary-road vehicle sensor's line, raw (R27, R28). -/
def primarySensorLine (c : Cond) : Bool := c.getLsbD 2

/-- `cond[3]`: the secondary-road vehicle sensor's line, raw (R27, R28). -/
def secondarySensorLine (c : Cond) : Bool := c.getLsbD 3

/-- The whole state `(phase, sec_left, pre)` and the cycle number, as a fault records them (R171). -/
def State.record (s : State) : FaultRecord :=
  { phase := s.phase, secLeft := s.secLeft, pre := s.pre, cycle := s.cycle }

end Sys2Proof.Machine
end

