-- ==== Sys2Proof/Machine/Flags.lean ====
section
/-!
DEFINITION. The block has no flags and no condition codes (R33). What takes their place are the sequencer's two
combinational strobes and the selector made of them, computed afresh from the registers in every cycle (R140, R65).
-/

namespace Sys2Proof.Machine

/-- `sec_end := (pre = CPS − 1)`: the last clock cycle of a dwell second (R140). -/
def State.secEnd (s : State) : Bool := decide (s.pre = s.params.cps - 1)

/-- `last_sec := (sec_left = 1)`: the last dwell second of a visit (R140). -/
def State.lastSec (s : State) : Bool := decide (s.secLeft = 1)

/-- `sel := {rst, sec_end, last_sec}` (R65). -/
def State.selector (s : State) : BitVec 3 :=
  BitVec.ofBool s.input.rst ++ BitVec.ofBool s.secEnd ++ BitVec.ofBool s.lastSec

end Sys2Proof.Machine
end

