-- ==== Sys2Proof/Machine/Tables.lean ====
section
/-!
DEFINITION. The two constant tables (10_state.md rule R25): the phase ROM (40_phase_rom.md) and the transition LUT
(41_transition_lut.md). Nothing writes them; a read has no side effect (R45). The irregular entries are literal (U9).
-/

namespace Sys2Proof.Machine

/-- `ROM(p)`: the dwell in seconds and the two lamp patterns of each phase (R80 to R86). -/
def rom : Phase → RomWord
  | .secondaryGo => { dwell := 7, chanA := 0x10, chanB := 0x02 }
  | .secondaryWait => { dwell := 2, chanA := 0x10, chanB := 0x04 }
  | .primaryGo => { dwell := 7, chanA := 0x04, chanB := 0x08 }
  | .primaryWait => { dwell := 2, chanA := 0x08, chanB := 0x08 }
  | .secondaryWalk => { dwell := 4, chanA := 0x10, chanB := 0x38 }
  | .primaryWalk => { dwell := 4, chanA := 0x10, chanB := 0x12 }
  | .secondaryGoShort => { dwell := 3, chanA := 0x10, chanB := 0x02 }

/-- One row of the LUT, its sixteen successors in the order of `cond` 0 to F (R101 to R107). -/
def lutRow : Phase → Vector Phase 16
  | .secondaryGo =>
    #v[.secondaryGo, .primaryWalk, .secondaryWait, .secondaryWait,
       .secondaryWait, .primaryWalk, .secondaryWait, .secondaryWait,
       .secondaryGo, .primaryWalk, .secondaryWait, .secondaryWait,
       .secondaryWait, .primaryWalk, .secondaryWait, .secondaryWait]
  | .secondaryWait =>
    #v[.primaryGo, .primaryGo, .primaryWalk, .primaryWalk,
       .primaryGo, .primaryGo, .primaryWalk, .primaryWalk,
       .primaryGo, .primaryGo, .primaryWalk, .primaryWalk,
       .primaryGo, .primaryGo, .primaryGo, .primaryWalk]
  | .primaryGo =>
    #v[.primaryWait, .primaryWait, .primaryWait, .primaryWait,
       .primaryWalk, .primaryWait, .primaryWait, .primaryWait,
       .primaryWait, .primaryWait, .primaryWait, .primaryWait,
       .primaryWait, .primaryWait, .primaryWait, .primaryWait]
  | .primaryWait =>
    #v[.secondaryGo, .primaryWalk, .secondaryWalk, .secondaryWalk,
       .secondaryGo, .primaryWalk, .secondaryWalk, .secondaryWalk,
       .secondaryGo, .primaryWalk, .secondaryWalk, .secondaryGo,
       .secondaryGo, .primaryWalk, .secondaryWalk, .primaryWalk]
  | .secondaryWalk =>
    #v[.secondaryGo, .secondaryGo, .secondaryGo, .secondaryGo,
       .primaryGo, .primaryGo, .primaryGo, .primaryGo,
       .secondaryGo, .secondaryGo, .secondaryGo, .secondaryGo,
       .secondaryGo, .primaryGo, .secondaryGo, .primaryGo]
  | .primaryWalk =>
    #v[.secondaryGoShort, .secondaryGoShort, .secondaryGoShort, .secondaryGoShort,
       .secondaryGoShort, .secondaryGoShort, .secondaryGoShort, .secondaryGoShort,
       .secondaryGoShort, .secondaryGoShort, .secondaryGoShort, .secondaryGoShort,
       .secondaryGoShort, .secondaryGoShort, .secondaryGoShort, .secondaryGoShort]
  | .secondaryGoShort =>
    #v[.secondaryGo, .secondaryWait, .secondaryWait, .secondaryWait,
       .secondaryWait, .secondaryWait, .secondaryWait, .secondaryWait,
       .secondaryGo, .secondaryGo, .secondaryWait, .secondaryWait,
       .secondaryWait, .secondaryWait, .secondaryWait, .secondaryWait]

/-- `LUT(p, c) := LUTROM[{p, c}]`: the successor of phase `p` under condition `c` (R100). -/
def lut (p : Phase) (c : Cond) : Phase := (lutRow p).get c.toFin

end Sys2Proof.Machine
end

