-- ==== Sys2Proof/Machine/Ops.lean ====
section
/-!
DEFINITION. The named operations that the meanings share: the register writes, the ROM read, entering a phase, the
transition through a LUT entry, raising a fault, the state check, and the end of a cycle.
-/

namespace Sys2Proof.Machine

/-! ### Register writes: all take effect at the same edge (R37) -/

/-- `phase <- code of p` (R21). No operation writes code 7 (R22). -/
def State.setPhase (p : Phase) (s : State) : State := { s with phase := p.code }

/-- `sec_left <- d` (R23). -/
def State.setSecLeft (d : Seconds) (s : State) : State := { s with secLeft := d }

/-- `PRE_W = ceil(log2 CPS)`, 0 when `CPS` = 1 (R4, R24). -/
def preWidth (cps : Nat) : Nat := if cps ≤ 1 then 0 else Nat.log2 (cps - 1) + 1

/-- `pre <- n`, as a `PRE_W`-bit unsigned register: with no bits (`CPS` = 1) it is always 0 (R24). -/
def State.setPre (n : Nat) (s : State) : State := { s with pre := n % 2 ^ preWidth s.params.cps }

/-- The ROM's data output becomes `w` (R44, R124). -/
def State.setRomData (w : RomWord) (s : State) : State := { s with romData := w }

/-! ### Table reads and transitions -/

/-- A read of the phase ROM: `ROM(p)` on its data output, and so on the lamp ports (R80 to R86, R120, R121). -/
def readRom (p : Phase) (s : State) : State := s.setRomData (rom p)

/-- What RESET and ADVANCE have in common: phase `p` is entered with its full dwell, a restarted prescaler, and its lamps
at this same edge (R142, R145, R44). -/
def enterPhase (p : Phase) (s : State) : State :=
  (((readRom p s).setPhase p).setSecLeft (rom p).dwell).setPre 0

/-- The transition through LUT entry `(p, c)`: `nxt := LUT(p, c)` is entered (R145). -/
def lutEdge (p : Phase) (c : Cond) (s : State) : Host.Outcome State Fault Refusal :=
  .next (enterPhase (lut p c) s)

/-! ### Faults: there is no trap entry and no return (R175); a fault ends the run (R172) -/

/-- `raise Fault(code)`: no next state; the register state and the cycle number are recorded (R8, R171). -/
def raise (fault : FaultRecord → Fault) (s : State) : Host.Outcome State Fault Refusal := .fault (fault s.record)

/-- The code of a fault (R171). -/
def Fault.code : Fault → Nat
  | .illegalPhase _ => 1
  | .illegalDwellCount _ => 2
  | .illegalPrescale _ => 3

/-- The state check, in the order in which faults are reported (R146, R174). -/
def stateCheck (s : State) : Option Fault :=
  if s.phase = 7 then some (.illegalPhase s.record)
  else if s.secLeft = 0 then some (.illegalDwellCount s.record)
  else if s.params.cps ≤ s.pre then some (.illegalPrescale s.record)
  else none

/-- What stops the edge before an operation is selected: the state check, unless `rst` = 1 (R141, R174). -/
def gate (s : State) : Option Fault := if s.input.rst then none else stateCheck s

/-! ### The cycle -/

/-- The next clock cycle begins: the environment's input of this cycle is used up (R7, R178). -/
def tick (s : State) : State := { s with stimulus := s.stimulus.tail, cycle := s.cycle + 1 }

/-- `f` runs on the next state, where there is one. -/
def andThen (o : Host.Outcome State Fault Refusal) (f : State → Host.Outcome State Fault Refusal) :
    Host.Outcome State Fault Refusal :=
  match o with
  | .next s => f s
  | .fault r => .fault r
  | .refused r => .refused r

end Sys2Proof.Machine
end

