-- ==== Sys2Proof/Machine/Lut.lean ====
section
/-!
DEFINITION. The meanings of the LUT entries (41_transition_lut.md rules R101 to R108). A LUT entry is read at an ADVANCE
edge (R100): running entry `LUT.<p>.<c>` is the transition through it, which loads the successor that the table gives for
row `p` and column `c` (R145). The successors stand once, in Machine/Tables.lean.
-/

namespace Sys2Proof.Machine

/-! ### Row SecondaryGo, addresses 0x00 to 0x0F (R101) -/

/-- `LUT.SecondaryGo.0`, address 0x00 (R101). -/
def execLutSecondaryGo0 (s : State) : Host.Outcome State Fault Refusal := lutEdge .secondaryGo 0x0 s

/-- `LUT.SecondaryGo.1`, address 0x01 (R101). -/
def execLutSecondaryGo1 (s : State) : Host.Outcome State Fault Refusal := lutEdge .secondaryGo 0x1 s

/-- `LUT.SecondaryGo.2`, address 0x02 (R101). -/
def execLutSecondaryGo2 (s : State) : Host.Outcome State Fault Refusal := lutEdge .secondaryGo 0x2 s

/-- `LUT.SecondaryGo.3`, address 0x03 (R101). -/
def execLutSecondaryGo3 (s : State) : Host.Outcome State Fault Refusal := lutEdge .secondaryGo 0x3 s

/-- `LUT.SecondaryGo.4`, address 0x04 (R101). -/
def execLutSecondaryGo4 (s : State) : Host.Outcome State Fault Refusal := lutEdge .secondaryGo 0x4 s

/-- `LUT.SecondaryGo.5`, address 0x05 (R101). -/
def execLutSecondaryGo5 (s : State) : Host.Outcome State Fault Refusal := lutEdge .secondaryGo 0x5 s

/-- `LUT.SecondaryGo.6`, address 0x06 (R101). -/
def execLutSecondaryGo6 (s : State) : Host.Outcome State Fault Refusal := lutEdge .secondaryGo 0x6 s

/-- `LUT.SecondaryGo.7`, address 0x07 (R101). -/
def execLutSecondaryGo7 (s : State) : Host.Outcome State Fault Refusal := lutEdge .secondaryGo 0x7 s

/-- `LUT.SecondaryGo.8`, address 0x08 (R101). -/
def execLutSecondaryGo8 (s : State) : Host.Outcome State Fault Refusal := lutEdge .secondaryGo 0x8 s

/-- `LUT.SecondaryGo.9`, address 0x09 (R101). -/
def execLutSecondaryGo9 (s : State) : Host.Outcome State Fault Refusal := lutEdge .secondaryGo 0x9 s

/-- `LUT.SecondaryGo.A`, address 0x0A (R101). -/
def execLutSecondaryGoA (s : State) : Host.Outcome State Fault Refusal := lutEdge .secondaryGo 0xA s

/-- `LUT.SecondaryGo.B`, address 0x0B (R101). -/
def execLutSecondaryGoB (s : State) : Host.Outcome State Fault Refusal := lutEdge .secondaryGo 0xB s

/-- `LUT.SecondaryGo.C`, address 0x0C (R101). -/
def execLutSecondaryGoC (s : State) : Host.Outcome State Fault Refusal := lutEdge .secondaryGo 0xC s

/-- `LUT.SecondaryGo.D`, address 0x0D (R101). -/
def execLutSecondaryGoD (s : State) : Host.Outcome State Fault Refusal := lutEdge .secondaryGo 0xD s

/-- `LUT.SecondaryGo.E`, address 0x0E (R101). -/
def execLutSecondaryGoE (s : State) : Host.Outcome State Fault Refusal := lutEdge .secondaryGo 0xE s

/-- `LUT.SecondaryGo.F`, address 0x0F (R101). -/
def execLutSecondaryGoF (s : State) : Host.Outcome State Fault Refusal := lutEdge .secondaryGo 0xF s

/-! ### Row SecondaryWait, addresses 0x10 to 0x1F (R102) -/

/-- `LUT.SecondaryWait.0`, address 0x10 (R102). -/
def execLutSecondaryWait0 (s : State) : Host.Outcome State Fault Refusal := lutEdge .secondaryWait 0x0 s

/-- `LUT.SecondaryWait.1`, address 0x11 (R102). -/
def execLutSecondaryWait1 (s : State) : Host.Outcome State Fault Refusal := lutEdge .secondaryWait 0x1 s

/-- `LUT.SecondaryWait.2`, address 0x12 (R102). -/
def execLutSecondaryWait2 (s : State) : Host.Outcome State Fault Refusal := lutEdge .secondaryWait 0x2 s

/-- `LUT.SecondaryWait.3`, address 0x13 (R102). -/
def execLutSecondaryWait3 (s : State) : Host.Outcome State Fault Refusal := lutEdge .secondaryWait 0x3 s

/-- `LUT.SecondaryWait.4`, address 0x14 (R102). -/
def execLutSecondaryWait4 (s : State) : Host.Outcome State Fault Refusal := lutEdge .secondaryWait 0x4 s

/-- `LUT.SecondaryWait.5`, address 0x15 (R102). -/
def execLutSecondaryWait5 (s : State) : Host.Outcome State Fault Refusal := lutEdge .secondaryWait 0x5 s

/-- `LUT.SecondaryWait.6`, address 0x16 (R102). -/
def execLutSecondaryWait6 (s : State) : Host.Outcome State Fault Refusal := lutEdge .secondaryWait 0x6 s

/-- `LUT.SecondaryWait.7`, address 0x17 (R102). -/
def execLutSecondaryWait7 (s : State) : Host.Outcome State Fault Refusal := lutEdge .secondaryWait 0x7 s

/-- `LUT.SecondaryWait.8`, address 0x18 (R102). -/
def execLutSecondaryWait8 (s : State) : Host.Outcome State Fault Refusal := lutEdge .secondaryWait 0x8 s

/-- `LUT.SecondaryWait.9`, address 0x19 (R102). -/
def execLutSecondaryWait9 (s : State) : Host.Outcome State Fault Refusal := lutEdge .secondaryWait 0x9 s

/-- `LUT.SecondaryWait.A`, address 0x1A (R102). -/
def execLutSecondaryWaitA (s : State) : Host.Outcome State Fault Refusal := lutEdge .secondaryWait 0xA s

/-- `LUT.SecondaryWait.B`, address 0x1B (R102). -/
def execLutSecondaryWaitB (s : State) : Host.Outcome State Fault Refusal := lutEdge .secondaryWait 0xB s

/-- `LUT.SecondaryWait.C`, address 0x1C (R102). -/
def execLutSecondaryWaitC (s : State) : Host.Outcome State Fault Refusal := lutEdge .secondaryWait 0xC s

/-- `LUT.SecondaryWait.D`, address 0x1D (R102). -/
def execLutSecondaryWaitD (s : State) : Host.Outcome State Fault Refusal := lutEdge .secondaryWait 0xD s

/-- `LUT.SecondaryWait.E`, address 0x1E (R102). -/
def execLutSecondaryWaitE (s : State) : Host.Outcome State Fault Refusal := lutEdge .secondaryWait 0xE s

/-- `LUT.SecondaryWait.F`, address 0x1F (R102). -/
def execLutSecondaryWaitF (s : State) : Host.Outcome State Fault Refusal := lutEdge .secondaryWait 0xF s

/-! ### Row PrimaryGo, addresses 0x20 to 0x2F (R103) -/

/-- `LUT.PrimaryGo.0`, address 0x20 (R103). -/
def execLutPrimaryGo0 (s : State) : Host.Outcome State Fault Refusal := lutEdge .primaryGo 0x0 s

/-- `LUT.PrimaryGo.1`, address 0x21 (R103). -/
def execLutPrimaryGo1 (s : State) : Host.Outcome State Fault Refusal := lutEdge .primaryGo 0x1 s

/-- `LUT.PrimaryGo.2`, address 0x22 (R103). -/
def execLutPrimaryGo2 (s : State) : Host.Outcome State Fault Refusal := lutEdge .primaryGo 0x2 s

/-- `LUT.PrimaryGo.3`, address 0x23 (R103). -/
def execLutPrimaryGo3 (s : State) : Host.Outcome State Fault Refusal := lutEdge .primaryGo 0x3 s

/-- `LUT.PrimaryGo.4`, address 0x24 (R103). -/
def execLutPrimaryGo4 (s : State) : Host.Outcome State Fault Refusal := lutEdge .primaryGo 0x4 s

/-- `LUT.PrimaryGo.5`, address 0x25 (R103). -/
def execLutPrimaryGo5 (s : State) : Host.Outcome State Fault Refusal := lutEdge .primaryGo 0x5 s

/-- `LUT.PrimaryGo.6`, address 0x26 (R103). -/
def execLutPrimaryGo6 (s : State) : Host.Outcome State Fault Refusal := lutEdge .primaryGo 0x6 s

/-- `LUT.PrimaryGo.7`, address 0x27 (R103). -/
def execLutPrimaryGo7 (s : State) : Host.Outcome State Fault Refusal := lutEdge .primaryGo 0x7 s

/-- `LUT.PrimaryGo.8`, address 0x28 (R103). -/
def execLutPrimaryGo8 (s : State) : Host.Outcome State Fault Refusal := lutEdge .primaryGo 0x8 s

/-- `LUT.PrimaryGo.9`, address 0x29 (R103). -/
def execLutPrimaryGo9 (s : State) : Host.Outcome State Fault Refusal := lutEdge .primaryGo 0x9 s

/-- `LUT.PrimaryGo.A`, address 0x2A (R103). -/
def execLutPrimaryGoA (s : State) : Host.Outcome State Fault Refusal := lutEdge .primaryGo 0xA s

/-- `LUT.PrimaryGo.B`, address 0x2B (R103). -/
def execLutPrimaryGoB (s : State) : Host.Outcome State Fault Refusal := lutEdge .primaryGo 0xB s

/-- `LUT.PrimaryGo.C`, address 0x2C (R103). -/
def execLutPrimaryGoC (s : State) : Host.Outcome State Fault Refusal := lutEdge .primaryGo 0xC s

/-- `LUT.PrimaryGo.D`, address 0x2D (R103). -/
def execLutPrimaryGoD (s : State) : Host.Outcome State Fault Refusal := lutEdge .primaryGo 0xD s

/-- `LUT.PrimaryGo.E`, address 0x2E (R103). -/
def execLutPrimaryGoE (s : State) : Host.Outcome State Fault Refusal := lutEdge .primaryGo 0xE s

/-- `LUT.PrimaryGo.F`, address 0x2F (R103). -/
def execLutPrimaryGoF (s : State) : Host.Outcome State Fault Refusal := lutEdge .primaryGo 0xF s

/-! ### Row PrimaryWait, addresses 0x30 to 0x3F (R104) -/

/-- `LUT.PrimaryWait.0`, address 0x30 (R104). -/
def execLutPrimaryWait0 (s : State) : Host.Outcome State Fault Refusal := lutEdge .primaryWait 0x0 s

/-- `LUT.PrimaryWait.1`, address 0x31 (R104). -/
def execLutPrimaryWait1 (s : State) : Host.Outcome State Fault Refusal := lutEdge .primaryWait 0x1 s

/-- `LUT.PrimaryWait.2`, address 0x32 (R104). -/
def execLutPrimaryWait2 (s : State) : Host.Outcome State Fault Refusal := lutEdge .primaryWait 0x2 s

/-- `LUT.PrimaryWait.3`, address 0x33 (R104). -/
def execLutPrimaryWait3 (s : State) : Host.Outcome State Fault Refusal := lutEdge .primaryWait 0x3 s

/-- `LUT.PrimaryWait.4`, address 0x34 (R104). -/
def execLutPrimaryWait4 (s : State) : Host.Outcome State Fault Refusal := lutEdge .primaryWait 0x4 s

/-- `LUT.PrimaryWait.5`, address 0x35 (R104). -/
def execLutPrimaryWait5 (s : State) : Host.Outcome State Fault Refusal := lutEdge .primaryWait 0x5 s

/-- `LUT.PrimaryWait.6`, address 0x36 (R104). -/
def execLutPrimaryWait6 (s : State) : Host.Outcome State Fault Refusal := lutEdge .primaryWait 0x6 s

/-- `LUT.PrimaryWait.7`, address 0x37 (R104). -/
def execLutPrimaryWait7 (s : State) : Host.Outcome State Fault Refusal := lutEdge .primaryWait 0x7 s

/-- `LUT.PrimaryWait.8`, address 0x38 (R104). -/
def execLutPrimaryWait8 (s : State) : Host.Outcome State Fault Refusal := lutEdge .primaryWait 0x8 s

/-- `LUT.PrimaryWait.9`, address 0x39 (R104). -/
def execLutPrimaryWait9 (s : State) : Host.Outcome State Fault Refusal := lutEdge .primaryWait 0x9 s

/-- `LUT.PrimaryWait.A`, address 0x3A (R104). -/
def execLutPrimaryWaitA (s : State) : Host.Outcome State Fault Refusal := lutEdge .primaryWait 0xA s

/-- `LUT.PrimaryWait.B`, address 0x3B (R104). -/
def execLutPrimaryWaitB (s : State) : Host.Outcome State Fault Refusal := lutEdge .primaryWait 0xB s

/-- `LUT.PrimaryWait.C`, address 0x3C (R104). -/
def execLutPrimaryWaitC (s : State) : Host.Outcome State Fault Refusal := lutEdge .primaryWait 0xC s

/-- `LUT.PrimaryWait.D`, address 0x3D (R104). -/
def execLutPrimaryWaitD (s : State) : Host.Outcome State Fault Refusal := lutEdge .primaryWait 0xD s

/-- `LUT.PrimaryWait.E`, address 0x3E (R104). -/
def execLutPrimaryWaitE (s : State) : Host.Outcome State Fault Refusal := lutEdge .primaryWait 0xE s

/-- `LUT.PrimaryWait.F`, address 0x3F (R104). -/
def execLutPrimaryWaitF (s : State) : Host.Outcome State Fault Refusal := lutEdge .primaryWait 0xF s

/-! ### Row SecondaryWalk, addresses 0x40 to 0x4F (R105) -/

/-- `LUT.SecondaryWalk.0`, address 0x40 (R105). -/
def execLutSecondaryWalk0 (s : State) : Host.Outcome State Fault Refusal := lutEdge .secondaryWalk 0x0 s

/-- `LUT.SecondaryWalk.1`, address 0x41 (R105). -/
def execLutSecondaryWalk1 (s : State) : Host.Outcome State Fault Refusal := lutEdge .secondaryWalk 0x1 s

/-- `LUT.SecondaryWalk.2`, address 0x42 (R105). -/
def execLutSecondaryWalk2 (s : State) : Host.Outcome State Fault Refusal := lutEdge .secondaryWalk 0x2 s

/-- `LUT.SecondaryWalk.3`, address 0x43 (R105). -/
def execLutSecondaryWalk3 (s : State) : Host.Outcome State Fault Refusal := lutEdge .secondaryWalk 0x3 s

/-- `LUT.SecondaryWalk.4`, address 0x44 (R105). -/
def execLutSecondaryWalk4 (s : State) : Host.Outcome State Fault Refusal := lutEdge .secondaryWalk 0x4 s

/-- `LUT.SecondaryWalk.5`, address 0x45 (R105). -/
def execLutSecondaryWalk5 (s : State) : Host.Outcome State Fault Refusal := lutEdge .secondaryWalk 0x5 s

/-- `LUT.SecondaryWalk.6`, address 0x46 (R105). -/
def execLutSecondaryWalk6 (s : State) : Host.Outcome State Fault Refusal := lutEdge .secondaryWalk 0x6 s

/-- `LUT.SecondaryWalk.7`, address 0x47 (R105). -/
def execLutSecondaryWalk7 (s : State) : Host.Outcome State Fault Refusal := lutEdge .secondaryWalk 0x7 s

/-- `LUT.SecondaryWalk.8`, address 0x48 (R105). -/
def execLutSecondaryWalk8 (s : State) : Host.Outcome State Fault Refusal := lutEdge .secondaryWalk 0x8 s

/-- `LUT.SecondaryWalk.9`, address 0x49 (R105). -/
def execLutSecondaryWalk9 (s : State) : Host.Outcome State Fault Refusal := lutEdge .secondaryWalk 0x9 s

/-- `LUT.SecondaryWalk.A`, address 0x4A (R105). -/
def execLutSecondaryWalkA (s : State) : Host.Outcome State Fault Refusal := lutEdge .secondaryWalk 0xA s

/-- `LUT.SecondaryWalk.B`, address 0x4B (R105). -/
def execLutSecondaryWalkB (s : State) : Host.Outcome State Fault Refusal := lutEdge .secondaryWalk 0xB s

/-- `LUT.SecondaryWalk.C`, address 0x4C (R105). -/
def execLutSecondaryWalkC (s : State) : Host.Outcome State Fault Refusal := lutEdge .secondaryWalk 0xC s

/-- `LUT.SecondaryWalk.D`, address 0x4D (R105). -/
def execLutSecondaryWalkD (s : State) : Host.Outcome State Fault Refusal := lutEdge .secondaryWalk 0xD s

/-- `LUT.SecondaryWalk.E`, address 0x4E (R105). -/
def execLutSecondaryWalkE (s : State) : Host.Outcome State Fault Refusal := lutEdge .secondaryWalk 0xE s

/-- `LUT.SecondaryWalk.F`, address 0x4F (R105). -/
def execLutSecondaryWalkF (s : State) : Host.Outcome State Fault Refusal := lutEdge .secondaryWalk 0xF s

/-! ### Row PrimaryWalk, addresses 0x50 to 0x5F (R106) -/

/-- `LUT.PrimaryWalk.0`, address 0x50 (R106). -/
def execLutPrimaryWalk0 (s : State) : Host.Outcome State Fault Refusal := lutEdge .primaryWalk 0x0 s

/-- `LUT.PrimaryWalk.1`, address 0x51 (R106). -/
def execLutPrimaryWalk1 (s : State) : Host.Outcome State Fault Refusal := lutEdge .primaryWalk 0x1 s

/-- `LUT.PrimaryWalk.2`, address 0x52 (R106). -/
def execLutPrimaryWalk2 (s : State) : Host.Outcome State Fault Refusal := lutEdge .primaryWalk 0x2 s

/-- `LUT.PrimaryWalk.3`, address 0x53 (R106). -/
def execLutPrimaryWalk3 (s : State) : Host.Outcome State Fault Refusal := lutEdge .primaryWalk 0x3 s

/-- `LUT.PrimaryWalk.4`, address 0x54 (R106). -/
def execLutPrimaryWalk4 (s : State) : Host.Outcome State Fault Refusal := lutEdge .primaryWalk 0x4 s

/-- `LUT.PrimaryWalk.5`, address 0x55 (R106). -/
def execLutPrimaryWalk5 (s : State) : Host.Outcome State Fault Refusal := lutEdge .primaryWalk 0x5 s

/-- `LUT.PrimaryWalk.6`, address 0x56 (R106). -/
def execLutPrimaryWalk6 (s : State) : Host.Outcome State Fault Refusal := lutEdge .primaryWalk 0x6 s

/-- `LUT.PrimaryWalk.7`, address 0x57 (R106). -/
def execLutPrimaryWalk7 (s : State) : Host.Outcome State Fault Refusal := lutEdge .primaryWalk 0x7 s

/-- `LUT.PrimaryWalk.8`, address 0x58 (R106). -/
def execLutPrimaryWalk8 (s : State) : Host.Outcome State Fault Refusal := lutEdge .primaryWalk 0x8 s

/-- `LUT.PrimaryWalk.9`, address 0x59 (R106). -/
def execLutPrimaryWalk9 (s : State) : Host.Outcome State Fault Refusal := lutEdge .primaryWalk 0x9 s

/-- `LUT.PrimaryWalk.A`, address 0x5A (R106). -/
def execLutPrimaryWalkA (s : State) : Host.Outcome State Fault Refusal := lutEdge .primaryWalk 0xA s

/-- `LUT.PrimaryWalk.B`, address 0x5B (R106). -/
def execLutPrimaryWalkB (s : State) : Host.Outcome State Fault Refusal := lutEdge .primaryWalk 0xB s

/-- `LUT.PrimaryWalk.C`, address 0x5C (R106). -/
def execLutPrimaryWalkC (s : State) : Host.Outcome State Fault Refusal := lutEdge .primaryWalk 0xC s

/-- `LUT.PrimaryWalk.D`, address 0x5D (R106). -/
def execLutPrimaryWalkD (s : State) : Host.Outcome State Fault Refusal := lutEdge .primaryWalk 0xD s

/-- `LUT.PrimaryWalk.E`, address 0x5E (R106). -/
def execLutPrimaryWalkE (s : State) : Host.Outcome State Fault Refusal := lutEdge .primaryWalk 0xE s

/-- `LUT.PrimaryWalk.F`, address 0x5F (R106). -/
def execLutPrimaryWalkF (s : State) : Host.Outcome State Fault Refusal := lutEdge .primaryWalk 0xF s

/-! ### Row SecondaryGoShort, addresses 0x60 to 0x6F (R107) -/

/-- `LUT.SecondaryGoShort.0`, address 0x60 (R107). -/
def execLutSecondaryGoShort0 (s : State) : Host.Outcome State Fault Refusal := lutEdge .secondaryGoShort 0x0 s

/-- `LUT.SecondaryGoShort.1`, address 0x61 (R107). -/
def execLutSecondaryGoShort1 (s : State) : Host.Outcome State Fault Refusal := lutEdge .secondaryGoShort 0x1 s

/-- `LUT.SecondaryGoShort.2`, address 0x62 (R107). -/
def execLutSecondaryGoShort2 (s : State) : Host.Outcome State Fault Refusal := lutEdge .secondaryGoShort 0x2 s

/-- `LUT.SecondaryGoShort.3`, address 0x63 (R107). -/
def execLutSecondaryGoShort3 (s : State) : Host.Outcome State Fault Refusal := lutEdge .secondaryGoShort 0x3 s

/-- `LUT.SecondaryGoShort.4`, address 0x64 (R107). -/
def execLutSecondaryGoShort4 (s : State) : Host.Outcome State Fault Refusal := lutEdge .secondaryGoShort 0x4 s

/-- `LUT.SecondaryGoShort.5`, address 0x65 (R107). -/
def execLutSecondaryGoShort5 (s : State) : Host.Outcome State Fault Refusal := lutEdge .secondaryGoShort 0x5 s

/-- `LUT.SecondaryGoShort.6`, address 0x66 (R107). -/
def execLutSecondaryGoShort6 (s : State) : Host.Outcome State Fault Refusal := lutEdge .secondaryGoShort 0x6 s

/-- `LUT.SecondaryGoShort.7`, address 0x67 (R107). -/
def execLutSecondaryGoShort7 (s : State) : Host.Outcome State Fault Refusal := lutEdge .secondaryGoShort 0x7 s

/-- `LUT.SecondaryGoShort.8`, address 0x68 (R107). -/
def execLutSecondaryGoShort8 (s : State) : Host.Outcome State Fault Refusal := lutEdge .secondaryGoShort 0x8 s

/-- `LUT.SecondaryGoShort.9`, address 0x69 (R107). -/
def execLutSecondaryGoShort9 (s : State) : Host.Outcome State Fault Refusal := lutEdge .secondaryGoShort 0x9 s

/-- `LUT.SecondaryGoShort.A`, address 0x6A (R107). -/
def execLutSecondaryGoShortA (s : State) : Host.Outcome State Fault Refusal := lutEdge .secondaryGoShort 0xA s

/-- `LUT.SecondaryGoShort.B`, address 0x6B (R107). -/
def execLutSecondaryGoShortB (s : State) : Host.Outcome State Fault Refusal := lutEdge .secondaryGoShort 0xB s

/-- `LUT.SecondaryGoShort.C`, address 0x6C (R107). -/
def execLutSecondaryGoShortC (s : State) : Host.Outcome State Fault Refusal := lutEdge .secondaryGoShort 0xC s

/-- `LUT.SecondaryGoShort.D`, address 0x6D (R107). -/
def execLutSecondaryGoShortD (s : State) : Host.Outcome State Fault Refusal := lutEdge .secondaryGoShort 0xD s

/-- `LUT.SecondaryGoShort.E`, address 0x6E (R107). -/
def execLutSecondaryGoShortE (s : State) : Host.Outcome State Fault Refusal := lutEdge .secondaryGoShort 0xE s

/-- `LUT.SecondaryGoShort.F`, address 0x6F (R107). -/
def execLutSecondaryGoShortF (s : State) : Host.Outcome State Fault Refusal := lutEdge .secondaryGoShort 0xF s

/-! ### Row 7, addresses 0x70 to 0x7F (R108) -/

/-- `LUT.illegal`: the row holds no entries, whatever the condition: `raise Fault(IllegalPhase)` (R108). -/
def execLutIllegal (_cond : Cond) (s : State) : Host.Outcome State Fault Refusal := raise .illegalPhase s

end Sys2Proof.Machine
end

