-- ==== Sys2Proof/Machine/Rom.lean ====
section
/-!
DEFINITION. The meanings of the phase ROM words (40_phase_rom.md rules R80 to R87). A ROM word is read in every cycle for
the output multiplexer and at an ADVANCE edge for the dwell reload: reading word `p` puts `ROM(p)` on the ROM's data
output, which drives the lamp ports (42_output_mux.md rules R120 to R122). The words stand once, in Machine/Tables.lean.
-/

namespace Sys2Proof.Machine

/-- `ROM.SecondaryGo`, ROM address 0 (R80). -/
def execRomSecondaryGo (s : State) : Host.Outcome State Fault Refusal := .next (readRom .secondaryGo s)

/-- `ROM.SecondaryWait`, ROM address 1 (R81). -/
def execRomSecondaryWait (s : State) : Host.Outcome State Fault Refusal := .next (readRom .secondaryWait s)

/-- `ROM.PrimaryGo`, ROM address 2 (R82). -/
def execRomPrimaryGo (s : State) : Host.Outcome State Fault Refusal := .next (readRom .primaryGo s)

/-- `ROM.PrimaryWait`, ROM address 3 (R83). -/
def execRomPrimaryWait (s : State) : Host.Outcome State Fault Refusal := .next (readRom .primaryWait s)

/-- `ROM.SecondaryWalk`, ROM address 4 (R84). -/
def execRomSecondaryWalk (s : State) : Host.Outcome State Fault Refusal := .next (readRom .secondaryWalk s)

/-- `ROM.PrimaryWalk`, ROM address 5 (R85). -/
def execRomPrimaryWalk (s : State) : Host.Outcome State Fault Refusal := .next (readRom .primaryWalk s)

/-- `ROM.SecondaryGoShort`, ROM address 6 (R86). -/
def execRomSecondaryGoShort (s : State) : Host.Outcome State Fault Refusal := .next (readRom .secondaryGoShort s)

/-- `ROM.illegal`: address 7 has no word: `raise Fault(IllegalPhase)` (R87). -/
def execRomIllegal (s : State) : Host.Outcome State Fault Refusal := raise .illegalPhase s

end Sys2Proof.Machine
end

