-- ==== Sys2Proof/Machine/Sequencer.lean ====
section
/-!
DEFINITION. The meanings of the four sequencer operations (43_dwell_sequencer.md rules R142 to R145). None sets or reads a
flag. The state check comes before them (R146) and is no part of them.
-/

namespace Sys2Proof.Machine

/-- `SEQ.RESET` (R142): `phase <- 0`, `sec_left <- ROM(0).dwell`, `pre <- 0`, from any state. The strobes in the two low
selector bits do not matter, and `cond` is ignored. -/
def execSeqReset (_secEnd _lastSec : Bool) (s : State) : Host.Outcome State Fault Refusal :=
  .next (enterPhase .secondaryGo s)

/-- `SEQ.ADVANCE` (R145): one sample, the LUT entry it selects in the row of `phase`, and the transition through it. Row 7
holds no entry (R108). -/
def execSeqAdvance (s : State) : Host.Outcome State Fault Refusal :=
  match Phase.ofCode s.phase with
  | some p => lutEdge p s.sample s
  | none => raise .illegalPhase s

/-- `SEQ.SECOND` (R144): `sec_left <- sec_left - 1` (3-bit unsigned), `pre <- 0`. `cond` is not read. -/
def execSeqSecond (s : State) : Host.Outcome State Fault Refusal :=
  .next ((s.setSecLeft (s.secLeft - 1)).setPre 0)

/-- `SEQ.COUNT` (R143): `pre <- pre + 1` (`PRE_W`-bit unsigned). `cond` is not read, and the selector's low bit does not
matter. -/
def execSeqCount (_lastSec : Bool) (s : State) : Host.Outcome State Fault Refusal :=
  .next (s.setPre (s.pre + 1))

end Sys2Proof.Machine
end

