-- ==== Sys2Proof/Machine/Dispatch.lean ====
section
/-!
DEFINITION. The dispatch: one arm per constructor of `Instr`, each one direct call of that instruction's own meaning.
-/

namespace Sys2Proof.Machine

def exec (i : Instr) (s : State) : Host.Outcome State Fault Refusal :=
  match i with
  -- 41_transition_lut.md rule R101
  | .lutSecondaryGo0 => Sys2Proof.Machine.execLutSecondaryGo0 s
  | .lutSecondaryGo1 => Sys2Proof.Machine.execLutSecondaryGo1 s
  | .lutSecondaryGo2 => Sys2Proof.Machine.execLutSecondaryGo2 s
  | .lutSecondaryGo3 => Sys2Proof.Machine.execLutSecondaryGo3 s
  | .lutSecondaryGo4 => Sys2Proof.Machine.execLutSecondaryGo4 s
  | .lutSecondaryGo5 => Sys2Proof.Machine.execLutSecondaryGo5 s
  | .lutSecondaryGo6 => Sys2Proof.Machine.execLutSecondaryGo6 s
  | .lutSecondaryGo7 => Sys2Proof.Machine.execLutSecondaryGo7 s
  | .lutSecondaryGo8 => Sys2Proof.Machine.execLutSecondaryGo8 s
  | .lutSecondaryGo9 => Sys2Proof.Machine.execLutSecondaryGo9 s
  | .lutSecondaryGoA => Sys2Proof.Machine.execLutSecondaryGoA s
  | .lutSecondaryGoB => Sys2Proof.Machine.execLutSecondaryGoB s
  | .lutSecondaryGoC => Sys2Proof.Machine.execLutSecondaryGoC s
  | .lutSecondaryGoD => Sys2Proof.Machine.execLutSecondaryGoD s
  | .lutSecondaryGoE => Sys2Proof.Machine.execLutSecondaryGoE s
  | .lutSecondaryGoF => Sys2Proof.Machine.execLutSecondaryGoF s
  -- 41_transition_lut.md rule R102
  | .lutSecondaryWait0 => Sys2Proof.Machine.execLutSecondaryWait0 s
  | .lutSecondaryWait1 => Sys2Proof.Machine.execLutSecondaryWait1 s
  | .lutSecondaryWait2 => Sys2Proof.Machine.execLutSecondaryWait2 s
  | .lutSecondaryWait3 => Sys2Proof.Machine.execLutSecondaryWait3 s
  | .lutSecondaryWait4 => Sys2Proof.Machine.execLutSecondaryWait4 s
  | .lutSecondaryWait5 => Sys2Proof.Machine.execLutSecondaryWait5 s
  | .lutSecondaryWait6 => Sys2Proof.Machine.execLutSecondaryWait6 s
  | .lutSecondaryWait7 => Sys2Proof.Machine.execLutSecondaryWait7 s
  | .lutSecondaryWait8 => Sys2Proof.Machine.execLutSecondaryWait8 s
  | .lutSecondaryWait9 => Sys2Proof.Machine.execLutSecondaryWait9 s
  | .lutSecondaryWaitA => Sys2Proof.Machine.execLutSecondaryWaitA s
  | .lutSecondaryWaitB => Sys2Proof.Machine.execLutSecondaryWaitB s
  | .lutSecondaryWaitC => Sys2Proof.Machine.execLutSecondaryWaitC s
  | .lutSecondaryWaitD => Sys2Proof.Machine.execLutSecondaryWaitD s
  | .lutSecondaryWaitE => Sys2Proof.Machine.execLutSecondaryWaitE s
  | .lutSecondaryWaitF => Sys2Proof.Machine.execLutSecondaryWaitF s
  -- 41_transition_lut.md rule R103
  | .lutPrimaryGo0 => Sys2Proof.Machine.execLutPrimaryGo0 s
  | .lutPrimaryGo1 => Sys2Proof.Machine.execLutPrimaryGo1 s
  | .lutPrimaryGo2 => Sys2Proof.Machine.execLutPrimaryGo2 s
  | .lutPrimaryGo3 => Sys2Proof.Machine.execLutPrimaryGo3 s
  | .lutPrimaryGo4 => Sys2Proof.Machine.execLutPrimaryGo4 s
  | .lutPrimaryGo5 => Sys2Proof.Machine.execLutPrimaryGo5 s
  | .lutPrimaryGo6 => Sys2Proof.Machine.execLutPrimaryGo6 s
  | .lutPrimaryGo7 => Sys2Proof.Machine.execLutPrimaryGo7 s
  | .lutPrimaryGo8 => Sys2Proof.Machine.execLutPrimaryGo8 s
  | .lutPrimaryGo9 => Sys2Proof.Machine.execLutPrimaryGo9 s
  | .lutPrimaryGoA => Sys2Proof.Machine.execLutPrimaryGoA s
  | .lutPrimaryGoB => Sys2Proof.Machine.execLutPrimaryGoB s
  | .lutPrimaryGoC => Sys2Proof.Machine.execLutPrimaryGoC s
  | .lutPrimaryGoD => Sys2Proof.Machine.execLutPrimaryGoD s
  | .lutPrimaryGoE => Sys2Proof.Machine.execLutPrimaryGoE s
  | .lutPrimaryGoF => Sys2Proof.Machine.execLutPrimaryGoF s
  -- 41_transition_lut.md rule R104
  | .lutPrimaryWait0 => Sys2Proof.Machine.execLutPrimaryWait0 s
  | .lutPrimaryWait1 => Sys2Proof.Machine.execLutPrimaryWait1 s
  | .lutPrimaryWait2 => Sys2Proof.Machine.execLutPrimaryWait2 s
  | .lutPrimaryWait3 => Sys2Proof.Machine.execLutPrimaryWait3 s
  | .lutPrimaryWait4 => Sys2Proof.Machine.execLutPrimaryWait4 s
  | .lutPrimaryWait5 => Sys2Proof.Machine.execLutPrimaryWait5 s
  | .lutPrimaryWait6 => Sys2Proof.Machine.execLutPrimaryWait6 s
  | .lutPrimaryWait7 => Sys2Proof.Machine.execLutPrimaryWait7 s
  | .lutPrimaryWait8 => Sys2Proof.Machine.execLutPrimaryWait8 s
  | .lutPrimaryWait9 => Sys2Proof.Machine.execLutPrimaryWait9 s
  | .lutPrimaryWaitA => Sys2Proof.Machine.execLutPrimaryWaitA s
  | .lutPrimaryWaitB => Sys2Proof.Machine.execLutPrimaryWaitB s
  | .lutPrimaryWaitC => Sys2Proof.Machine.execLutPrimaryWaitC s
  | .lutPrimaryWaitD => Sys2Proof.Machine.execLutPrimaryWaitD s
  | .lutPrimaryWaitE => Sys2Proof.Machine.execLutPrimaryWaitE s
  | .lutPrimaryWaitF => Sys2Proof.Machine.execLutPrimaryWaitF s
  -- 41_transition_lut.md rule R105
  | .lutSecondaryWalk0 => Sys2Proof.Machine.execLutSecondaryWalk0 s
  | .lutSecondaryWalk1 => Sys2Proof.Machine.execLutSecondaryWalk1 s
  | .lutSecondaryWalk2 => Sys2Proof.Machine.execLutSecondaryWalk2 s
  | .lutSecondaryWalk3 => Sys2Proof.Machine.execLutSecondaryWalk3 s
  | .lutSecondaryWalk4 => Sys2Proof.Machine.execLutSecondaryWalk4 s
  | .lutSecondaryWalk5 => Sys2Proof.Machine.execLutSecondaryWalk5 s
  | .lutSecondaryWalk6 => Sys2Proof.Machine.execLutSecondaryWalk6 s
  | .lutSecondaryWalk7 => Sys2Proof.Machine.execLutSecondaryWalk7 s
  | .lutSecondaryWalk8 => Sys2Proof.Machine.execLutSecondaryWalk8 s
  | .lutSecondaryWalk9 => Sys2Proof.Machine.execLutSecondaryWalk9 s
  | .lutSecondaryWalkA => Sys2Proof.Machine.execLutSecondaryWalkA s
  | .lutSecondaryWalkB => Sys2Proof.Machine.execLutSecondaryWalkB s
  | .lutSecondaryWalkC => Sys2Proof.Machine.execLutSecondaryWalkC s
  | .lutSecondaryWalkD => Sys2Proof.Machine.execLutSecondaryWalkD s
  | .lutSecondaryWalkE => Sys2Proof.Machine.execLutSecondaryWalkE s
  | .lutSecondaryWalkF => Sys2Proof.Machine.execLutSecondaryWalkF s
  -- 41_transition_lut.md rule R106
  | .lutPrimaryWalk0 => Sys2Proof.Machine.execLutPrimaryWalk0 s
  | .lutPrimaryWalk1 => Sys2Proof.Machine.execLutPrimaryWalk1 s
  | .lutPrimaryWalk2 => Sys2Proof.Machine.execLutPrimaryWalk2 s
  | .lutPrimaryWalk3 => Sys2Proof.Machine.execLutPrimaryWalk3 s
  | .lutPrimaryWalk4 => Sys2Proof.Machine.execLutPrimaryWalk4 s
  | .lutPrimaryWalk5 => Sys2Proof.Machine.execLutPrimaryWalk5 s
  | .lutPrimaryWalk6 => Sys2Proof.Machine.execLutPrimaryWalk6 s
  | .lutPrimaryWalk7 => Sys2Proof.Machine.execLutPrimaryWalk7 s
  | .lutPrimaryWalk8 => Sys2Proof.Machine.execLutPrimaryWalk8 s
  | .lutPrimaryWalk9 => Sys2Proof.Machine.execLutPrimaryWalk9 s
  | .lutPrimaryWalkA => Sys2Proof.Machine.execLutPrimaryWalkA s
  | .lutPrimaryWalkB => Sys2Proof.Machine.execLutPrimaryWalkB s
  | .lutPrimaryWalkC => Sys2Proof.Machine.execLutPrimaryWalkC s
  | .lutPrimaryWalkD => Sys2Proof.Machine.execLutPrimaryWalkD s
  | .lutPrimaryWalkE => Sys2Proof.Machine.execLutPrimaryWalkE s
  | .lutPrimaryWalkF => Sys2Proof.Machine.execLutPrimaryWalkF s
  -- 41_transition_lut.md rule R107
  | .lutSecondaryGoShort0 => Sys2Proof.Machine.execLutSecondaryGoShort0 s
  | .lutSecondaryGoShort1 => Sys2Proof.Machine.execLutSecondaryGoShort1 s
  | .lutSecondaryGoShort2 => Sys2Proof.Machine.execLutSecondaryGoShort2 s
  | .lutSecondaryGoShort3 => Sys2Proof.Machine.execLutSecondaryGoShort3 s
  | .lutSecondaryGoShort4 => Sys2Proof.Machine.execLutSecondaryGoShort4 s
  | .lutSecondaryGoShort5 => Sys2Proof.Machine.execLutSecondaryGoShort5 s
  | .lutSecondaryGoShort6 => Sys2Proof.Machine.execLutSecondaryGoShort6 s
  | .lutSecondaryGoShort7 => Sys2Proof.Machine.execLutSecondaryGoShort7 s
  | .lutSecondaryGoShort8 => Sys2Proof.Machine.execLutSecondaryGoShort8 s
  | .lutSecondaryGoShort9 => Sys2Proof.Machine.execLutSecondaryGoShort9 s
  | .lutSecondaryGoShortA => Sys2Proof.Machine.execLutSecondaryGoShortA s
  | .lutSecondaryGoShortB => Sys2Proof.Machine.execLutSecondaryGoShortB s
  | .lutSecondaryGoShortC => Sys2Proof.Machine.execLutSecondaryGoShortC s
  | .lutSecondaryGoShortD => Sys2Proof.Machine.execLutSecondaryGoShortD s
  | .lutSecondaryGoShortE => Sys2Proof.Machine.execLutSecondaryGoShortE s
  | .lutSecondaryGoShortF => Sys2Proof.Machine.execLutSecondaryGoShortF s
  -- 41_transition_lut.md rule R108
  | .lutIllegal c => Sys2Proof.Machine.execLutIllegal c s
  -- 40_phase_rom.md rules R80 to R87
  | .romSecondaryGo => Sys2Proof.Machine.execRomSecondaryGo s
  | .romSecondaryWait => Sys2Proof.Machine.execRomSecondaryWait s
  | .romPrimaryGo => Sys2Proof.Machine.execRomPrimaryGo s
  | .romPrimaryWait => Sys2Proof.Machine.execRomPrimaryWait s
  | .romSecondaryWalk => Sys2Proof.Machine.execRomSecondaryWalk s
  | .romPrimaryWalk => Sys2Proof.Machine.execRomPrimaryWalk s
  | .romSecondaryGoShort => Sys2Proof.Machine.execRomSecondaryGoShort s
  | .romIllegal => Sys2Proof.Machine.execRomIllegal s
  -- 43_dwell_sequencer.md rules R142 to R145
  | .seqReset secEnd lastSec => Sys2Proof.Machine.execSeqReset secEnd lastSec s
  | .seqAdvance => Sys2Proof.Machine.execSeqAdvance s
  | .seqSecond => Sys2Proof.Machine.execSeqSecond s
  | .seqCount lastSec => Sys2Proof.Machine.execSeqCount lastSec s

end Sys2Proof.Machine
end

