-- ==== Sys2Proof/Machine/Fetch.lean ====
section
/-!
DEFINITION. What the block's decoders see in a cycle: the selector, the LUT address and the ROM address (R65, R61, R62),
and the instructions these name. There is no instruction memory (R40): the words are formed from the registers and ports.
-/

namespace Sys2Proof.Machine

/-- The selector of the cycle as a word (R65). -/
def State.seqSelWord (s : State) : CodeWord := seqWord s.selector.toNat

/-- The LUT address of the cycle as a word, `{phase, cond}` (R61). -/
def State.lutAddrWord (s : State) : CodeWord := lutWord (lutAddr s.phase s.sample).toNat

/-- The ROM address of the cycle as a word, `phase` (R62). -/
def State.romAddrWord (s : State) : CodeWord := romWord s.phase.toNat

/-- The sequencer operation of the edge that ends the cycle (R65). -/
def fetchSeq (s : State) : Instr := decodeSeqSel s.selector

/-- The LUT entry that the cycle addresses; it is used at an ADVANCE edge alone (R100). -/
def fetchLut (s : State) : Instr := decodeLutAddr (lutAddr s.phase s.sample)

/-- The ROM word that the cycle addresses, for the output multiplexer (R120, R121). -/
def fetchRom (s : State) : Instr := decodeRomAddr s.phase

/-- A cycle whose edge is the ADVANCE through the LUT address in `w`: `phase` and `cond` are its two fields, `rst` = 0, and
it is the last cycle of the last second, with `CPS` = 1 so that the kernel can evaluate the strobes where `CPS` is open
(log entry 3). The lamps are those of the phase, where it has any. -/
def placeLutAddr (s : State) (w : Nat) : State :=
  let a : BitVec 7 := BitVec.ofNat 7 (tableLutBits w)
  let code : PhaseCode := a.extractLsb' 4 3
  { s with
    phase := code
    secLeft := 1
    pre := 0
    romData := match Phase.ofCode code with
      | some p => rom p
      | none => s.romData
    params := { s.params with cps := 1 }
    stimulus := { rst := false, cond := a.extractLsb' 0 4 } :: s.stimulus }

end Sys2Proof.Machine
end

