-- ==== Sys2Proof/Machine/Step.lean ====
section
/-!
DEFINITION. One step per rising edge of `clk`: `S_(n+1) = Next(S_n, rst_n, cond_n)` (43_dwell_sequencer.md rule R141).
-/

namespace Sys2Proof.Machine

/-- RESET first, then the state check, then exactly one of ADVANCE, SECOND and COUNT, as the selector says (R141, R174);
the ROM is read at the phase of the cycle that begins, for its outputs (R120, R124); the cycle's input is used up. -/
def step (s : State) : Host.Outcome State Fault Refusal :=
  match gate s with
  | some f => .fault f
  | none =>
    andThen (exec (fetchSeq s) s) fun t =>
      andThen (exec (fetchRom t) t) fun u => .next (tick u)

/-- `s` in a cycle in which the table word `w` is what step runs: a LUT address at its ADVANCE edge (log entry 3). -/
def State.withFetchWord (s : State) (_nbits w : Nat) : State := placeLutAddr s w

end Sys2Proof.Machine
end

