-- ==== Sys2Proof/Machine/Dwell.lean ====
section
/-!
DEFINITION. The dwell level (00_scope.md rule R9): one step per phase visit, as 43_dwell_sequencer.md rule R148 derives it
from the cycle level, and the expansion of a dwell-level program into a cycle-level one (R69).
-/

namespace Sys2Proof.Machine

/-- The clock cycles of one visit of `p`: `ROM(p).dwell × CPS` (R147, R210). -/
def visitCycles (p : Phase) (cps : Nat) : Nat := (rom p).dwell.toNat * cps

/-- `p_k` (R148): the phase after the sampled conditions `cs`, from phase `p`. -/
def dwellRun (p : Phase) : DwellProgram → Phase
  | [] => p
  | c :: cs => dwellRun (lut p c) cs

/-- `(p_k, E_k - e_0)` (R148): the phase that the `k`-th ADVANCE enters and how many edges after the entry of `p` it comes,
under the inputs that `s` and the environment give. -/
def visit (s : State) (p : Phase) : Nat → Phase × Nat
  | 0 => (p, 0)
  | k + 1 =>
    let q := (visit s p k).1
    let e := (visit s p k).2 + visitCycles q s.params.cps
    (lut q (s.inputAt (e - 1)).cond, e)

/-- The cycle-level program that holds `cond` at the `k`-th entry for the whole of the `k`-th visit, with `rst` = 0,
starting in phase `p` (R69). -/
def expand (cps : Nat) (p : Phase) : DwellProgram → CycleProgram
  | [] => []
  | c :: cs => List.replicate (visitCycles p cps) { rst := false, cond := c } ++ expand cps (lut p c) cs

/-- The clock cycles that a dwell-level program takes, starting in phase `p`. -/
def programCycles (cps : Nat) (p : Phase) : DwellProgram → Nat
  | [] => 0
  | c :: cs => visitCycles p cps + programCycles cps (lut p c) cs

end Sys2Proof.Machine
end

