-- ==== Sys2Proof/Machine/Outputs.lean ====
section
/-!
DEFINITION. The output multiplexer (42_output_mux.md): the ports in a cycle and the lamps they drive (R29, R30). The lamp
ports carry the fields of the word on the ROM's data output; `phase_o` is a copy of `phase`.
-/

namespace Sys2Proof.Machine

/-- `road_a = ROM(phase).chanA` (R120). -/
def State.roadA (s : State) : Channel := s.romData.chanA

/-- `road_b = ROM(phase).chanB` (R121). -/
def State.roadB (s : State) : Channel := s.romData.chanB

/-- `walk_p = road_b[4]`, the primary walk lamp's driver (R122). -/
def State.walkP (s : State) : Bool := s.roadB.getLsbD 4

/-- `walk_s = road_b[5]`, the secondary walk lamp's driver (R122). -/
def State.walkS (s : State) : Bool := s.roadB.getLsbD 5

/-- `phase_o = phase`, 7 shown as 7; no value where the port is not built (R123, U8). -/
def State.phaseO (s : State) : Option PhaseCode := if s.params.hasPhaseO then some s.phase else none

/-- `road_a[2]` (R29). -/
def State.primaryGreen (s : State) : Bool := s.roadA.getLsbD 2

/-- `road_a[3]` (R29). -/
def State.primaryYellow (s : State) : Bool := s.roadA.getLsbD 3

/-- `road_a[4]` (R29). -/
def State.primaryRed (s : State) : Bool := s.roadA.getLsbD 4

/-- `road_b[1]` (R30). -/
def State.secondaryGreen (s : State) : Bool := s.roadB.getLsbD 1

/-- `road_b[2]` (R30). -/
def State.secondaryYellow (s : State) : Bool := s.roadB.getLsbD 2

/-- `road_b[3]` (R30). -/
def State.secondaryRed (s : State) : Bool := s.roadB.getLsbD 3

end Sys2Proof.Machine
end

