-- ==== Sys2Proof/Safety.lean ====
section
/-!
DEFINITION. The terms in which claims are made: legal and consistent states, runs, and the state that entering a phase
leaves.
-/

namespace Sys2Proof.Machine

/-- Every register holds a legal value (10_state.md rule R34; 43_dwell_sequencer.md rule R150). -/
abbrev State.Legal (s : State) : Prop := s.phase ≠ 7 ∧ s.secLeft ≠ 0 ∧ s.pre < s.params.cps

/-- The lamp ports carry the pattern of the phase in force: `ROM(phase)` is on the ROM's data output (R120, R121). -/
abbrev State.Consistent (s : State) : Prop := (Phase.ofCode s.phase).map rom = some s.romData

/-- What every state reached from reset satisfies. A legal `pre` makes `CPS` at least 1. -/
abbrev State.Inv (s : State) : Prop := s.Legal ∧ s.Consistent

/-- The machine after `k` clock edges, or the fault that ended the run (R12: a finite prefix of an infinite run). -/
def run : Nat → State → Host.Outcome State Fault Refusal
  | 0, s => .next s
  | k + 1, s => andThen (step s) (run k)

/-- The state with phase `p` just entered: its code, its whole dwell, a restarted prescaler and its lamps; nothing else of
`s` differs. -/
def entered (p : Phase) (s : State) : State :=
  { s with phase := p.code, secLeft := (rom p).dwell, pre := 0, romData := rom p }

/-- The cycle after `s`, with the registers and lamps of `s`: the input is used up and the cycle number moves on. -/
def afterCycle (s : State) : State := { s with stimulus := s.stimulus.tail, cycle := s.cycle + 1 }

/-- The edge that ends the cycle of `s` is an ADVANCE edge, if `rst` = 0 and `s` is legal (R145). -/
abbrev State.AtAdvance (s : State) : Prop := s.pre = s.params.cps - 1 ∧ s.secLeft = 1

/-- The clock cycles left in the visit, this one included, in a legal state (R147). -/
def State.cyclesLeft (s : State) : Nat := (s.secLeft.toNat - 1) * s.params.cps + (s.params.cps - s.pre)

/-- The lamps of both roads show green: DOC's one safety invariant forbids it (40_phase_rom.md rule R88). -/
def State.bothGreen (s : State) : Bool := s.primaryGreen && s.secondaryGreen

end Sys2Proof.Machine
end

