-- ==== Sys2Proof/Certificates/Slice0/Obligations.lean ====
section
/-!
DEFINITION. The statements for the provers, in the order of the spec's rules. A result equation
`exec i s = .next t` says that the instruction completes, what it writes, and (every other field of `t` being that of `s`)
that it leaves everything else unchanged. The block has no memory (20_memory.md rule R40).
-/

open Sys2Proof Sys2Proof.Machine

/-! ## Encodings (30_encoding.md) -/

/-- Every instruction, with every operand, is read back from its encoding (formats of R60; tables of R46, R62, R65). -/
def Obligations.DecodeOfEncodeIsIdentity : Prop :=
  ∀ i : Instr, (encode i).wf = true ∧ decode (encode i) = .ok i

/-- Every word that decodes is the encoding of the instruction it decodes to: no two words mean one instruction. -/
def Obligations.EncodeOfDecodeIsIdentity : Prop :=
  ∀ (w : CodeWord) (i : Instr), decode w = .ok i → encode i = w

/-- The decoder is total: a word of its format's width has a meaning, and any other word is rejected by name (R13, R60,
R67, R68). -/
def Obligations.DecoderMeansEveryWordOfItsWidth : Prop :=
  ∀ w : CodeWord,
    (w.wf = true → ∃ i, decode w = .ok i) ∧
    (w.wf = false → w.format = .lutAddr → decode w = .error .lutAddrTooWide) ∧
    (w.wf = false → w.format = .romAddr → decode w = .error .romAddrTooWide) ∧
    (w.wf = false → w.format = .seqSel → decode w = .error .seqSelTooWide)

/-- R61: the LUT address is the concatenation, `16 × phase + cond`, of two whole operands; both can be read back. -/
def Obligations.LutAddressJoinsPhaseAndCond : Prop :=
  ∀ (p : PhaseCode) (c : Cond),
    lutAddr p c = p ++ c ∧ (lutAddr p c).toNat = 16 * p.toNat + c.toNat ∧
    (lutAddr p c).extractLsb' 4 3 = p ∧ (lutAddr p c).extractLsb' 0 4 = c

/-- R62: the field layout of the 19-bit ROM word, and the seven words. -/
def Obligations.RomWordLayoutAndContents : Prop :=
  (∀ w : RomWord, w.pack = w.dwell ++ w.chanA ++ w.chanB ∧ RomWord.unpack w.pack = w) ∧
  (∀ w : BitVec 19, (RomWord.unpack w).dwell = w.extractLsb' 16 3 ∧ (RomWord.unpack w).chanA = w.extractLsb' 8 8 ∧
    (RomWord.unpack w).chanB = w.extractLsb' 0 8 ∧ (RomWord.unpack w).pack = w) ∧
  (rom .secondaryGo).pack = 0x71002 ∧ (rom .secondaryWait).pack = 0x21004 ∧ (rom .primaryGo).pack = 0x70408 ∧
  (rom .primaryWait).pack = 0x20808 ∧ (rom .secondaryWalk).pack = 0x41038 ∧ (rom .primaryWalk).pack = 0x41012 ∧
  (rom .secondaryGoShort).pack = 0x31002

/-- R63 and R22: the code of each phase is its index 0 to 6, and code 7 names no phase. -/
def Obligations.PhaseCodesAreIndices : Prop :=
  Phase.code .secondaryGo = 0b000 ∧ Phase.code .secondaryWait = 0b001 ∧ Phase.code .primaryGo = 0b010 ∧
  Phase.code .primaryWait = 0b011 ∧ Phase.code .secondaryWalk = 0b100 ∧ Phase.code .primaryWalk = 0b101 ∧
  Phase.code .secondaryGoShort = 0b110 ∧
  (∀ (c : PhaseCode) (p : Phase), Phase.ofCode c = some p ↔ c = p.code) ∧
  (∀ c : PhaseCode, Phase.ofCode c = none ↔ c = 0b111)

/-- R65: `sel := {rst, sec_end, last_sec}`, and each of its eight values selects exactly one operation, by the match and
mask of the opcode table. -/
def Obligations.SelectorPartitionsTheOperations : Prop :=
  (∀ s : State, s.selector = BitVec.ofBool s.input.rst ++ BitVec.ofBool s.secEnd ++ BitVec.ofBool s.lastSec) ∧
  (∀ sel : BitVec 3,
    ((∃ a b, decodeSeqSel sel = .seqReset a b) ↔ sel &&& 0b100 = 0b100) ∧
    (decodeSeqSel sel = .seqAdvance ↔ sel &&& 0b111 = 0b011) ∧
    (decodeSeqSel sel = .seqSecond ↔ sel &&& 0b111 = 0b010) ∧
    ((∃ b, decodeSeqSel sel = .seqCount b) ↔ sel &&& 0b110 = 0b000) ∧
    ((∃ a b, decodeSeqSel sel = .seqReset a b) ∨ decodeSeqSel sel = .seqAdvance ∨ decodeSeqSel sel = .seqSecond ∨
      ∃ b, decodeSeqSel sel = .seqCount b))

/-- A few words written out from the encoding tables (R46, R62, R65), one or more of each format. -/
def Obligations.WrittenWordsDecode : Prop :=
  decode (lutWord 0b010_0100) = .ok .lutPrimaryGo4 ∧ decode (lutWord 0b110_1001) = .ok .lutSecondaryGoShort9 ∧
  decode (lutWord 0b111_0101) = .ok (.lutIllegal 0b0101) ∧ decode (romWord 0b101) = .ok .romPrimaryWalk ∧
  decode (romWord 0b111) = .ok .romIllegal ∧ decode (seqWord 0b011) = .ok .seqAdvance ∧
  decode (seqWord 0b010) = .ok .seqSecond ∧ decode (seqWord 0b001) = .ok (.seqCount true) ∧
  decode (seqWord 0b110) = .ok (.seqReset true false)

/-! ## The phase ROM (40_phase_rom.md) -/

/-- The addresses and words are those of R80 to R86. That the row's read, in every state and whatever `phase` is, puts the
row's word on the ROM's data output and changes nothing else is the MODEL'S CHOICE: log entry 5 (a row run outside its own
address) on the output register of log entry 6. -/
def Obligations.RomReadsDriveTheirWords : Prop :=
  ∀ e ∈ [(0, Instr.romSecondaryGo, Phase.secondaryGo, 7, 0x10, 0x02),
      (1, Instr.romSecondaryWait, Phase.secondaryWait, 2, 0x10, 0x04),
      (2, Instr.romPrimaryGo, Phase.primaryGo, 7, 0x04, 0x08),
      (3, Instr.romPrimaryWait, Phase.primaryWait, 2, 0x08, 0x08),
      (4, Instr.romSecondaryWalk, Phase.secondaryWalk, 4, 0x10, 0x38),
      (5, Instr.romPrimaryWalk, Phase.primaryWalk, 4, 0x10, 0x12),
      (6, Instr.romSecondaryGoShort, Phase.secondaryGoShort, 3, 0x10, 0x02)],
    decode (romWord e.1) = .ok e.2.1 ∧
    rom e.2.2.1 = { dwell := e.2.2.2.1, chanA := e.2.2.2.2.1, chanB := e.2.2.2.2.2 } ∧
    ∀ s : State, exec e.2.1 s =
      .next { s with romData := { dwell := e.2.2.2.1, chanA := e.2.2.2.2.1, chanB := e.2.2.2.2.2 } }

/-- Address 7 has no word (R87), and a cycle with `phase` = 7 and `rst` = 0 faults (R87, R171). That `exec` of the row
faults in every state, also with `rst` = 1 or in another phase, is the MODEL'S READING, log entry 9 (DEDUCED). -/
def Obligations.RomAddressSevenFaults : Prop :=
  decode (romWord 7) = .ok .romIllegal ∧
  (∀ s : State, exec .romIllegal s =
    .fault (.illegalPhase { phase := s.phase, secLeft := s.secLeft, pre := s.pre, cycle := s.cycle })) ∧
  (∀ s : State, s.phase = 7 → s.input.rst = false → step s =
    .fault (.illegalPhase { phase := s.phase, secLeft := s.secLeft, pre := s.pre, cycle := s.cycle }))

/-- R88: no phase has green on both roads, with R88's enumeration of the greens, and no step from any state whatever
leads to a cycle that shows it. -/
def Obligations.NeverGreenOnBothRoads : Prop :=
  (∀ p : Phase, ¬((rom p).chanA.getLsbD 2 = true ∧ (rom p).chanB.getLsbD 1 = true)) ∧
  (∀ p : Phase, (rom p).chanA.getLsbD 2 = true ↔ p = .primaryGo) ∧
  (rom .primaryGo).chanB = 0x08 ∧
  (∀ p : Phase, (rom p).chanB.getLsbD 1 = true ↔ p ∈ [Phase.secondaryGo, .primaryWalk, .secondaryGoShort]) ∧
  (∀ p ∈ [Phase.secondaryGo, .primaryWalk, .secondaryGoShort], (rom p).chanA = 0x10) ∧
  (∀ s t : State, step s = .next t → t.bothGreen = false)

/-- R89: in every phase, and in every cycle that a step leads to, each road shows exactly one of green, yellow and red. -/
def Obligations.ExactlyOneLampPerRoad : Prop :=
  (∀ p : Phase,
    [(rom p).chanA.getLsbD 4, (rom p).chanA.getLsbD 3, (rom p).chanA.getLsbD 2].count true = 1 ∧
    [(rom p).chanB.getLsbD 3, (rom p).chanB.getLsbD 2, (rom p).chanB.getLsbD 1].count true = 1) ∧
  (∀ s t : State, step s = .next t →
    [t.primaryGreen, t.primaryYellow, t.primaryRed].count true = 1 ∧
    [t.secondaryGreen, t.secondaryYellow, t.secondaryRed].count true = 1)

/-- R90: when the walk lamps are lit, and what the vehicle lamps then show, in the ROM and in every cycle that a step
leads to. -/
def Obligations.WalkLampsOnlyInWalkPhases : Prop :=
  (∀ p : Phase,
    ((rom p).chanB.getLsbD 4 = true ↔ p = .secondaryWalk ∨ p = .primaryWalk) ∧
    ((rom p).chanB.getLsbD 4 = true → (rom p).chanA = 0x10) ∧
    ((rom p).chanB.getLsbD 5 = true ↔ p = .secondaryWalk) ∧
    ((rom p).chanB.getLsbD 5 = true → (rom p).chanB.getLsbD 3 = true) ∧
    ((rom p).chanB.getLsbD 4 = true ∨ (rom p).chanB.getLsbD 5 = true →
      (rom p).chanA.getLsbD 3 = false ∧ (rom p).chanA.getLsbD 2 = false)) ∧
  (∀ s t : State, step s = .next t →
    (t.walkP = true ↔ t.phase = 4 ∨ t.phase = 5) ∧ (t.walkS = true ↔ t.phase = 4) ∧
    (t.walkP = true → t.roadA = 0x10) ∧ (t.walkS = true → t.secondaryRed = true) ∧
    (t.walkP = true ∨ t.walkS = true → t.primaryYellow = false ∧ t.primaryGreen = false))

/-- R91: every dwell is in 2 to 7; the seven dwells. -/
def Obligations.DwellsAreTwoToSeven : Prop :=
  (∀ p : Phase, 2 ≤ (rom p).dwell.toNat ∧ (rom p).dwell.toNat ≤ 7 ∧ (rom p).dwell ≠ 0) ∧
  (rom .secondaryGo).dwell = 7 ∧ (rom .secondaryWait).dwell = 2 ∧ (rom .primaryGo).dwell = 7 ∧
  (rom .primaryWait).dwell = 2 ∧ (rom .secondaryWalk).dwell = 4 ∧ (rom .primaryWalk).dwell = 4 ∧
  (rom .secondaryGoShort).dwell = 3

/-! ## The transition LUT (41_transition_lut.md) -/

/-- Row SecondaryGo, with the successors and the pseudocode of R101. Each of its sixteen addresses decodes to its entry;
running the entry enters the entry's successor (its code, its whole dwell, a restarted prescaler, its lamps) and changes
nothing else; an ADVANCE in the phase takes the entry that the sampled condition selects. That `exec` does this in every
state, also one whose `phase` or `cond` is not the entry's address, is the MODEL'S CHOICE, log entry 5. -/
def Obligations.LutRowSecondaryGo : Prop :=
  (∀ e ∈ [(0x00, Instr.lutSecondaryGo0, Phase.secondaryGo), (0x01, Instr.lutSecondaryGo1, Phase.primaryWalk),
      (0x02, Instr.lutSecondaryGo2, Phase.secondaryWait), (0x03, Instr.lutSecondaryGo3, Phase.secondaryWait),
      (0x04, Instr.lutSecondaryGo4, Phase.secondaryWait), (0x05, Instr.lutSecondaryGo5, Phase.primaryWalk),
      (0x06, Instr.lutSecondaryGo6, Phase.secondaryWait), (0x07, Instr.lutSecondaryGo7, Phase.secondaryWait),
      (0x08, Instr.lutSecondaryGo8, Phase.secondaryGo), (0x09, Instr.lutSecondaryGo9, Phase.primaryWalk),
      (0x0A, Instr.lutSecondaryGoA, Phase.secondaryWait), (0x0B, Instr.lutSecondaryGoB, Phase.secondaryWait),
      (0x0C, Instr.lutSecondaryGoC, Phase.secondaryWait), (0x0D, Instr.lutSecondaryGoD, Phase.primaryWalk),
      (0x0E, Instr.lutSecondaryGoE, Phase.secondaryWait), (0x0F, Instr.lutSecondaryGoF, Phase.secondaryWait)],
    decode (lutWord e.1) = .ok e.2.1 ∧ ∀ s : State, exec e.2.1 s = .next (entered e.2.2 s)) ∧
  (∀ s : State, s.phase = 0 → exec .seqAdvance s = .next (entered (lut .secondaryGo s.input.cond) s)) ∧
  (∀ c : Cond, (lut .secondaryGo c).code = if c ∈ [0x1, 0x5, 0x9, 0xD] then 5 else if c ∈ [0x0, 0x8] then 0 else 1)

/-- Row SecondaryWait, with the successors and the pseudocode of R102. Each of its sixteen addresses decodes to its entry;
running the entry enters the entry's successor (its code, its whole dwell, a restarted prescaler, its lamps) and changes
nothing else; an ADVANCE in the phase takes the entry that the sampled condition selects. That `exec` does this in every
state, also one whose `phase` or `cond` is not the entry's address, is the MODEL'S CHOICE, log entry 5. -/
def Obligations.LutRowSecondaryWait : Prop :=
  (∀ e ∈ [(0x10, Instr.lutSecondaryWait0, Phase.primaryGo), (0x11, Instr.lutSecondaryWait1, Phase.primaryGo),
      (0x12, Instr.lutSecondaryWait2, Phase.primaryWalk), (0x13, Instr.lutSecondaryWait3, Phase.primaryWalk),
      (0x14, Instr.lutSecondaryWait4, Phase.primaryGo), (0x15, Instr.lutSecondaryWait5, Phase.primaryGo),
      (0x16, Instr.lutSecondaryWait6, Phase.primaryWalk), (0x17, Instr.lutSecondaryWait7, Phase.primaryWalk),
      (0x18, Instr.lutSecondaryWait8, Phase.primaryGo), (0x19, Instr.lutSecondaryWait9, Phase.primaryGo),
      (0x1A, Instr.lutSecondaryWaitA, Phase.primaryWalk), (0x1B, Instr.lutSecondaryWaitB, Phase.primaryWalk),
      (0x1C, Instr.lutSecondaryWaitC, Phase.primaryGo), (0x1D, Instr.lutSecondaryWaitD, Phase.primaryGo),
      (0x1E, Instr.lutSecondaryWaitE, Phase.primaryGo), (0x1F, Instr.lutSecondaryWaitF, Phase.primaryWalk)],
    decode (lutWord e.1) = .ok e.2.1 ∧ ∀ s : State, exec e.2.1 s = .next (entered e.2.2 s)) ∧
  (∀ s : State, s.phase = 1 → exec .seqAdvance s = .next (entered (lut .secondaryWait s.input.cond) s)) ∧
  (∀ c : Cond, (lut .secondaryWait c).code = if c ∈ [0x2, 0x3, 0x6, 0x7, 0xA, 0xB, 0xF] then 5 else 2)

/-- Row PrimaryGo, with the successors and the pseudocode of R103. Each of its sixteen addresses decodes to its entry;
running the entry enters the entry's successor (its code, its whole dwell, a restarted prescaler, its lamps) and changes
nothing else; an ADVANCE in the phase takes the entry that the sampled condition selects. That `exec` does this in every
state, also one whose `phase` or `cond` is not the entry's address, is the MODEL'S CHOICE, log entry 5. -/
def Obligations.LutRowPrimaryGo : Prop :=
  (∀ e ∈ [(0x20, Instr.lutPrimaryGo0, Phase.primaryWait), (0x21, Instr.lutPrimaryGo1, Phase.primaryWait),
      (0x22, Instr.lutPrimaryGo2, Phase.primaryWait), (0x23, Instr.lutPrimaryGo3, Phase.primaryWait),
      (0x24, Instr.lutPrimaryGo4, Phase.primaryWalk), (0x25, Instr.lutPrimaryGo5, Phase.primaryWait),
      (0x26, Instr.lutPrimaryGo6, Phase.primaryWait), (0x27, Instr.lutPrimaryGo7, Phase.primaryWait),
      (0x28, Instr.lutPrimaryGo8, Phase.primaryWait), (0x29, Instr.lutPrimaryGo9, Phase.primaryWait),
      (0x2A, Instr.lutPrimaryGoA, Phase.primaryWait), (0x2B, Instr.lutPrimaryGoB, Phase.primaryWait),
      (0x2C, Instr.lutPrimaryGoC, Phase.primaryWait), (0x2D, Instr.lutPrimaryGoD, Phase.primaryWait),
      (0x2E, Instr.lutPrimaryGoE, Phase.primaryWait), (0x2F, Instr.lutPrimaryGoF, Phase.primaryWait)],
    decode (lutWord e.1) = .ok e.2.1 ∧ ∀ s : State, exec e.2.1 s = .next (entered e.2.2 s)) ∧
  (∀ s : State, s.phase = 2 → exec .seqAdvance s = .next (entered (lut .primaryGo s.input.cond) s)) ∧
  (∀ c : Cond, (lut .primaryGo c).code = if c = 0x4 then 5 else 3)

/-- Row PrimaryWait, with the successors and the pseudocode of R104. Each of its sixteen addresses decodes to its entry;
running the entry enters the entry's successor (its code, its whole dwell, a restarted prescaler, its lamps) and changes
nothing else; an ADVANCE in the phase takes the entry that the sampled condition selects. That `exec` does this in every
state, also one whose `phase` or `cond` is not the entry's address, is the MODEL'S CHOICE, log entry 5. -/
def Obligations.LutRowPrimaryWait : Prop :=
  (∀ e ∈ [(0x30, Instr.lutPrimaryWait0, Phase.secondaryGo), (0x31, Instr.lutPrimaryWait1, Phase.primaryWalk),
      (0x32, Instr.lutPrimaryWait2, Phase.secondaryWalk), (0x33, Instr.lutPrimaryWait3, Phase.secondaryWalk),
      (0x34, Instr.lutPrimaryWait4, Phase.secondaryGo), (0x35, Instr.lutPrimaryWait5, Phase.primaryWalk),
      (0x36, Instr.lutPrimaryWait6, Phase.secondaryWalk), (0x37, Instr.lutPrimaryWait7, Phase.secondaryWalk),
      (0x38, Instr.lutPrimaryWait8, Phase.secondaryGo), (0x39, Instr.lutPrimaryWait9, Phase.primaryWalk),
      (0x3A, Instr.lutPrimaryWaitA, Phase.secondaryWalk), (0x3B, Instr.lutPrimaryWaitB, Phase.secondaryGo),
      (0x3C, Instr.lutPrimaryWaitC, Phase.secondaryGo), (0x3D, Instr.lutPrimaryWaitD, Phase.primaryWalk),
      (0x3E, Instr.lutPrimaryWaitE, Phase.secondaryWalk), (0x3F, Instr.lutPrimaryWaitF, Phase.primaryWalk)],
    decode (lutWord e.1) = .ok e.2.1 ∧ ∀ s : State, exec e.2.1 s = .next (entered e.2.2 s)) ∧
  (∀ s : State, s.phase = 3 → exec .seqAdvance s = .next (entered (lut .primaryWait s.input.cond) s)) ∧
  (∀ c : Cond, (lut .primaryWait c).code = if c ∈ [0x1, 0x5, 0x9, 0xD, 0xF] then 5 else if c ∈ [0x2, 0x3, 0x6, 0x7, 0xA, 0xE] then 4 else 0)

/-- Row SecondaryWalk, with the successors and the pseudocode of R105. Each of its sixteen addresses decodes to its entry;
running the entry enters the entry's successor (its code, its whole dwell, a restarted prescaler, its lamps) and changes
nothing else; an ADVANCE in the phase takes the entry that the sampled condition selects. That `exec` does this in every
state, also one whose `phase` or `cond` is not the entry's address, is the MODEL'S CHOICE, log entry 5. -/
def Obligations.LutRowSecondaryWalk : Prop :=
  (∀ e ∈ [(0x40, Instr.lutSecondaryWalk0, Phase.secondaryGo), (0x41, Instr.lutSecondaryWalk1, Phase.secondaryGo),
      (0x42, Instr.lutSecondaryWalk2, Phase.secondaryGo), (0x43, Instr.lutSecondaryWalk3, Phase.secondaryGo),
      (0x44, Instr.lutSecondaryWalk4, Phase.primaryGo), (0x45, Instr.lutSecondaryWalk5, Phase.primaryGo),
      (0x46, Instr.lutSecondaryWalk6, Phase.primaryGo), (0x47, Instr.lutSecondaryWalk7, Phase.primaryGo),
      (0x48, Instr.lutSecondaryWalk8, Phase.secondaryGo), (0x49, Instr.lutSecondaryWalk9, Phase.secondaryGo),
      (0x4A, Instr.lutSecondaryWalkA, Phase.secondaryGo), (0x4B, Instr.lutSecondaryWalkB, Phase.secondaryGo),
      (0x4C, Instr.lutSecondaryWalkC, Phase.secondaryGo), (0x4D, Instr.lutSecondaryWalkD, Phase.primaryGo),
      (0x4E, Instr.lutSecondaryWalkE, Phase.secondaryGo), (0x4F, Instr.lutSecondaryWalkF, Phase.primaryGo)],
    decode (lutWord e.1) = .ok e.2.1 ∧ ∀ s : State, exec e.2.1 s = .next (entered e.2.2 s)) ∧
  (∀ s : State, s.phase = 4 → exec .seqAdvance s = .next (entered (lut .secondaryWalk s.input.cond) s)) ∧
  (∀ c : Cond, (lut .secondaryWalk c).code = if c ∈ [0x4, 0x5, 0x6, 0x7, 0xD, 0xF] then 2 else 0)

/-- Row PrimaryWalk, with the successors and the pseudocode of R106. Each of its sixteen addresses decodes to its entry;
running the entry enters the entry's successor (its code, its whole dwell, a restarted prescaler, its lamps) and changes
nothing else; an ADVANCE in the phase takes the entry that the sampled condition selects. That `exec` does this in every
state, also one whose `phase` or `cond` is not the entry's address, is the MODEL'S CHOICE, log entry 5. -/
def Obligations.LutRowPrimaryWalk : Prop :=
  (∀ e ∈ [(0x50, Instr.lutPrimaryWalk0, Phase.secondaryGoShort), (0x51, Instr.lutPrimaryWalk1, Phase.secondaryGoShort),
      (0x52, Instr.lutPrimaryWalk2, Phase.secondaryGoShort), (0x53, Instr.lutPrimaryWalk3, Phase.secondaryGoShort),
      (0x54, Instr.lutPrimaryWalk4, Phase.secondaryGoShort), (0x55, Instr.lutPrimaryWalk5, Phase.secondaryGoShort),
      (0x56, Instr.lutPrimaryWalk6, Phase.secondaryGoShort), (0x57, Instr.lutPrimaryWalk7, Phase.secondaryGoShort),
      (0x58, Instr.lutPrimaryWalk8, Phase.secondaryGoShort), (0x59, Instr.lutPrimaryWalk9, Phase.secondaryGoShort),
      (0x5A, Instr.lutPrimaryWalkA, Phase.secondaryGoShort), (0x5B, Instr.lutPrimaryWalkB, Phase.secondaryGoShort),
      (0x5C, Instr.lutPrimaryWalkC, Phase.secondaryGoShort), (0x5D, Instr.lutPrimaryWalkD, Phase.secondaryGoShort),
      (0x5E, Instr.lutPrimaryWalkE, Phase.secondaryGoShort), (0x5F, Instr.lutPrimaryWalkF, Phase.secondaryGoShort)],
    decode (lutWord e.1) = .ok e.2.1 ∧ ∀ s : State, exec e.2.1 s = .next (entered e.2.2 s)) ∧
  (∀ s : State, s.phase = 5 → exec .seqAdvance s = .next (entered (lut .primaryWalk s.input.cond) s)) ∧
  (∀ c : Cond, (lut .primaryWalk c).code = 6)

/-- Row SecondaryGoShort, with the successors and the pseudocode of R107. Each of its sixteen addresses decodes to its entry;
running the entry enters the entry's successor (its code, its whole dwell, a restarted prescaler, its lamps) and changes
nothing else; an ADVANCE in the phase takes the entry that the sampled condition selects. That `exec` does this in every
state, also one whose `phase` or `cond` is not the entry's address, is the MODEL'S CHOICE, log entry 5. -/
def Obligations.LutRowSecondaryGoShort : Prop :=
  (∀ e ∈ [(0x60, Instr.lutSecondaryGoShort0, Phase.secondaryGo), (0x61, Instr.lutSecondaryGoShort1, Phase.secondaryWait),
      (0x62, Instr.lutSecondaryGoShort2, Phase.secondaryWait), (0x63, Instr.lutSecondaryGoShort3, Phase.secondaryWait),
      (0x64, Instr.lutSecondaryGoShort4, Phase.secondaryWait), (0x65, Instr.lutSecondaryGoShort5, Phase.secondaryWait),
      (0x66, Instr.lutSecondaryGoShort6, Phase.secondaryWait), (0x67, Instr.lutSecondaryGoShort7, Phase.secondaryWait),
      (0x68, Instr.lutSecondaryGoShort8, Phase.secondaryGo), (0x69, Instr.lutSecondaryGoShort9, Phase.secondaryGo),
      (0x6A, Instr.lutSecondaryGoShortA, Phase.secondaryWait), (0x6B, Instr.lutSecondaryGoShortB, Phase.secondaryWait),
      (0x6C, Instr.lutSecondaryGoShortC, Phase.secondaryWait), (0x6D, Instr.lutSecondaryGoShortD, Phase.secondaryWait),
      (0x6E, Instr.lutSecondaryGoShortE, Phase.secondaryWait), (0x6F, Instr.lutSecondaryGoShortF, Phase.secondaryWait)],
    decode (lutWord e.1) = .ok e.2.1 ∧ ∀ s : State, exec e.2.1 s = .next (entered e.2.2 s)) ∧
  (∀ s : State, s.phase = 6 → exec .seqAdvance s = .next (entered (lut .secondaryGoShort s.input.cond) s)) ∧
  (∀ c : Cond, (lut .secondaryGoShort c).code = if c ∈ [0x0, 0x8, 0x9] then 0 else 1)

/-- The sixteen addresses of row 7 hold no entries (R108), and a cycle with `phase` = 7 and `rst` = 0 faults (R108, R171).
That `exec` of the row faults in every state, also with `rst` = 1 or in another phase, is the MODEL'S READING, log entry 9
(DEDUCED). -/
def Obligations.LutRowSevenFaults : Prop :=
  (∀ c : Cond, decode (lutWord (0x70 + c.toNat)) = .ok (.lutIllegal c)) ∧
  (∀ (c : Cond) (s : State), exec (.lutIllegal c) s =
    .fault (.illegalPhase { phase := s.phase, secLeft := s.secLeft, pre := s.pre, cycle := s.cycle })) ∧
  (∀ s : State, s.phase = 7 → s.input.rst = false → step s =
    .fault (.illegalPhase { phase := s.phase, secLeft := s.secLeft, pre := s.pre, cycle := s.cycle }))

/-- R109: the full table as next-phase codes, row by row; every entry is a code in 0 to 6. -/
def Obligations.LutTableIsTheGrid : Prop :=
  (∀ e ∈ [
      (Phase.secondaryGo, [0, 5, 1, 1, 1, 5, 1, 1, 0, 5, 1, 1, 1, 5, 1, 1]),
      (Phase.secondaryWait, [2, 2, 5, 5, 2, 2, 5, 5, 2, 2, 5, 5, 2, 2, 2, 5]),
      (Phase.primaryGo, [3, 3, 3, 3, 5, 3, 3, 3, 3, 3, 3, 3, 3, 3, 3, 3]),
      (Phase.primaryWait, [0, 5, 4, 4, 0, 5, 4, 4, 0, 5, 4, 0, 0, 5, 4, 5]),
      (Phase.secondaryWalk, [0, 0, 0, 0, 2, 2, 2, 2, 0, 0, 0, 0, 0, 2, 0, 2]),
      (Phase.primaryWalk, [6, 6, 6, 6, 6, 6, 6, 6, 6, 6, 6, 6, 6, 6, 6, 6]),
      (Phase.secondaryGoShort, [0, 1, 1, 1, 1, 1, 1, 1, 0, 0, 1, 1, 1, 1, 1, 1])],
    (List.range 16).map (fun c => (lut e.1 (BitVec.ofNat 4 c)).code.toNat) = e.2) ∧
  (∀ (p : Phase) (c : Cond), (lut p c).code.toNat ≤ 6)

/-- R110: the witness sequences, every phase's return to SecondaryGo, and that the transition graph is strongly
connected. -/
def Obligations.EveryPhaseReachesEveryPhase : Prop :=
  dwellRun .secondaryGo [2] = .secondaryWait ∧ dwellRun .secondaryGo [1] = .primaryWalk ∧
  dwellRun .secondaryGo [1, 0] = .secondaryGoShort ∧ dwellRun .secondaryGo [2, 0] = .primaryGo ∧
  dwellRun .secondaryGo [2, 0, 0] = .primaryWait ∧ dwellRun .secondaryGo [2, 0, 0, 2] = .secondaryWalk ∧
  dwellRun .secondaryWait [0, 0, 0] = .secondaryGo ∧ dwellRun .primaryGo [0, 0] = .secondaryGo ∧
  dwellRun .primaryWait [0] = .secondaryGo ∧ dwellRun .secondaryWalk [0] = .secondaryGo ∧
  dwellRun .primaryWalk [0, 0] = .secondaryGo ∧ dwellRun .secondaryGoShort [0] = .secondaryGo ∧
  ∀ p q : Phase, ∃ cs : DwellProgram, dwellRun p cs = q

/-- R111: the only self-loops are (0, 0) and (0, 8), and the distinct edges of the graph are the listed ones. -/
def Obligations.SelfLoopsAndEdges : Prop :=
  (∀ (p : Phase) (c : Cond), lut p c = p ↔ p = .secondaryGo ∧ (c = 0x0 ∨ c = 0x8)) ∧
  (∀ p q : Phase, (∃ c : Cond, lut p c = q) ↔ (p, q) ∈ [
    (Phase.secondaryGo, Phase.secondaryGo), (.secondaryGo, .secondaryWait), (.secondaryGo, .primaryWalk),
    (.secondaryWait, .primaryGo), (.secondaryWait, .primaryWalk), (.primaryGo, .primaryWait), (.primaryGo, .primaryWalk),
    (.primaryWait, .secondaryGo), (.primaryWait, .secondaryWalk), (.primaryWait, .primaryWalk),
    (.secondaryWalk, .secondaryGo), (.secondaryWalk, .primaryGo), (.primaryWalk, .secondaryGoShort),
    (.secondaryGoShort, .secondaryGo), (.secondaryGoShort, .secondaryWait)])

/-- R112: the two edges without a yellow or a red visit between. At the ADVANCE from PrimaryGo with condition 4, road A
goes from green to red while road B goes from red to green with the primary walk lamp; at the ADVANCES from SecondaryWait
to PrimaryWalk road B goes from yellow back to green. -/
def Obligations.GreenToRedWithoutYellow : Prop :=
  (∀ s : State, s.Inv → s.AtAdvance → s.input.rst = false → s.phase = 2 → s.input.cond = 0x4 →
    ∃ t, step s = .next t ∧ s.roadA = 0x04 ∧ t.roadA = 0x10 ∧ s.roadB = 0x08 ∧ t.roadB = 0x12) ∧
  (∀ s : State, s.Inv → s.AtAdvance → s.input.rst = false → s.phase = 1 →
    s.input.cond ∈ [0x2, 0x3, 0x6, 0x7, 0xA, 0xB, 0xF] →
    ∃ t, step s = .next t ∧ s.roadB = 0x04 ∧ t.roadB = 0x12)

/-! ## The output multiplexer (42_output_mux.md) -/

/-- R120, R121: after any step, from any state, the phase is legal and the lamp ports are the fields of its ROM word; the
walk drivers are the two bits of `road_b` (R122) and `phase_o` is the phase where it is built (R123); a cycle with
`phase` = 7 and `rst` = 0 faults. -/
def Obligations.PortsAreFunctionsOfThePhase : Prop :=
  (∀ s t : State, step s = .next t →
    ∃ p : Phase, t.phase = p.code ∧ t.roadA = (rom p).chanA ∧ t.roadB = (rom p).chanB ∧
      t.walkP = (rom p).chanB.getLsbD 4 ∧ t.walkS = (rom p).chanB.getLsbD 5 ∧
      t.phaseO = if t.params.hasPhaseO then some p.code else none) ∧
  (∀ s : State, s.phase = 7 → s.input.rst = false → step s =
    .fault (.illegalPhase { phase := s.phase, secLeft := s.secLeft, pre := s.pre, cycle := s.cycle }))

/-- R126: the ports and lamps of each phase, as tabled. The lamps of a road are listed green, yellow, red. -/
def Obligations.OutputSummaryPerPhase : Prop :=
  ∀ e ∈ [((0 : PhaseCode), (0x10 : Channel), [false, false, true], (0x02 : Channel), [true, false, false], false, false),
      (1, 0x10, [false, false, true], 0x04, [false, true, false], false, false),
      (2, 0x04, [true, false, false], 0x08, [false, false, true], false, false),
      (3, 0x08, [false, true, false], 0x08, [false, false, true], false, false),
      (4, 0x10, [false, false, true], 0x38, [false, false, true], true, true),
      (5, 0x10, [false, false, true], 0x12, [true, false, false], true, false),
      (6, 0x10, [false, false, true], 0x02, [true, false, false], false, false)],
    ∀ s t : State, step s = .next t → t.phase = e.1 →
      t.roadA = e.2.1 ∧ [t.primaryGreen, t.primaryYellow, t.primaryRed] = e.2.2.1 ∧
      t.roadB = e.2.2.2.1 ∧ [t.secondaryGreen, t.secondaryYellow, t.secondaryRed] = e.2.2.2.2.1 ∧
      t.walkP = e.2.2.2.2.2.1 ∧ t.walkS = e.2.2.2.2.2.2 ∧ (t.params.hasPhaseO = true → t.phaseO = some e.1)

/-- R124: in consistent cycles of one machine the outputs depend on the phase alone, not on the inputs, the seconds
counter or the prescaler; and they change only at an edge where `phase` changes. -/
def Obligations.OutputsChangeOnlyWithThePhase : Prop :=
  (∀ s t : State, s.Consistent → t.Consistent → s.params = t.params → s.phase = t.phase →
    s.roadA = t.roadA ∧ s.roadB = t.roadB ∧ s.walkP = t.walkP ∧ s.walkS = t.walkS ∧ s.phaseO = t.phaseO) ∧
  (∀ s t : State, s.Consistent → step s = .next t → t.phase = s.phase →
    t.roadA = s.roadA ∧ t.roadB = s.roadB ∧ t.walkP = s.walkP ∧ t.walkS = s.walkS ∧ t.phaseO = s.phaseO)

/-- R31: the reserved output bits are driven to 0 in every cycle that a step leads to. -/
def Obligations.ReservedOutputBitsAreZero : Prop :=
  ∀ s t : State, step s = .next t →
    t.roadA.extractLsb' 0 2 = 0 ∧ t.roadA.extractLsb' 5 3 = 0 ∧ t.roadB.extractLsb' 0 1 = 0 ∧ t.roadB.extractLsb' 6 2 = 0

/-! ## The sequencer (43_dwell_sequencer.md) -/

/-- R140: the two strobes, and that with `CPS` = 1 every cycle of a legal state is the last of its second. -/
def Obligations.StrobesFollowTheCounters : Prop :=
  (∀ s : State, (s.secEnd = true ↔ s.pre = s.params.cps - 1) ∧ (s.lastSec = true ↔ s.secLeft = 1)) ∧
  (∀ s : State, s.Legal → s.params.cps = 1 → s.secEnd = true)

/-- R142: RESET completes from any state whatever its don't-care selector bits, an edge with `rst` = 1 performs it, and
holding `rst` repeats it: after every edge of a reset pulse the registers are (0, 7, 0) and the lamps SecondaryGo's. -/
def Obligations.ResetOperation : Prop :=
  (∀ (a b : Bool) (s : State), exec (.seqReset a b) s =
    .next { s with phase := 0, secLeft := 7, pre := 0, romData := { dwell := 7, chanA := 0x10, chanB := 0x02 } }) ∧
  (∀ s : State, s.input.rst = true → step s = .next { s with
    phase := 0, secLeft := 7, pre := 0, romData := { dwell := 7, chanA := 0x10, chanB := 0x02 },
    stimulus := s.stimulus.tail, cycle := s.cycle + 1 }) ∧
  (∀ (k : Nat) (s : State), (∀ j < k + 1, (s.inputAt j).rst = true) → run (k + 1) s = .next { s with
    phase := 0, secLeft := 7, pre := 0, romData := { dwell := 7, chanA := 0x10, chanB := 0x02 },
    stimulus := s.stimulus.drop (k + 1), cycle := s.cycle + (k + 1) })

/-- R143: COUNT increments the prescaler, which cannot wrap there, and changes nothing else; it is the operation of an edge
with `rst` = 0 and `pre` below `CPS - 1`, and is never selected when `CPS` = 1. -/
def Obligations.CountOperation : Prop :=
  (∀ (b : Bool) (s : State), s.pre + 1 < s.params.cps → exec (.seqCount b) s = .next { s with pre := s.pre + 1 }) ∧
  (∀ s : State, s.Inv → s.input.rst = false → s.pre + 1 < s.params.cps →
    step s = .next { s with pre := s.pre + 1, stimulus := s.stimulus.tail, cycle := s.cycle + 1 }) ∧
  (∀ s : State, s.Legal → s.input.rst = false → s.params.cps = 1 → ∀ b, fetchSeq s ≠ .seqCount b)

/-- R144: SECOND, with `sec_left` at least 2, decrements the seconds counter, restarts the prescaler and changes nothing
else; where it is selected the count stays at least 1; with `CPS` = 1 every edge of a visit but the last is a SECOND. What
`exec` does with a smaller `sec_left` is in OperationsOffTheirConditions. -/
def Obligations.SecondOperation : Prop :=
  (∀ s : State, 2 ≤ s.secLeft.toNat → exec .seqSecond s = .next { s with secLeft := s.secLeft - 1, pre := 0 }) ∧
  (∀ s : State, s.Inv → s.input.rst = false → s.pre = s.params.cps - 1 → s.secLeft ≠ 1 →
    step s = .next { s with secLeft := s.secLeft - 1, pre := 0, stimulus := s.stimulus.tail, cycle := s.cycle + 1 } ∧
    (s.secLeft - 1).toNat = s.secLeft.toNat - 1 ∧ 1 ≤ (s.secLeft - 1).toNat) ∧
  (∀ s : State, s.Legal → s.input.rst = false → s.params.cps = 1 → s.secLeft ≠ 1 → fetchSeq s = .seqSecond)

/-- R145: ADVANCE completes in every legal phase: it samples `cond` once, loads the successor, its dwell and lamps, and
restarts the prescaler; an edge of a legal state with `rst` = 0, `pre` = `CPS - 1` and `sec_left` = 1 performs it. What
`exec` does in phase 7 is in OperationsOffTheirConditions. -/
def Obligations.AdvanceOperation : Prop :=
  (∀ (s : State) (p : Phase), s.phase = p.code → exec .seqAdvance s = .next { s with
    phase := (lut p s.input.cond).code, secLeft := (rom (lut p s.input.cond)).dwell, pre := 0,
    romData := rom (lut p s.input.cond) }) ∧
  (∀ (s : State) (p : Phase), s.Legal → s.input.rst = false → s.pre = s.params.cps - 1 → s.secLeft = 1 →
    s.phase = p.code → step s = .next { s with
      phase := (lut p s.input.cond).code, secLeft := (rom (lut p s.input.cond)).dwell, pre := 0,
      romData := rom (lut p s.input.cond), stimulus := s.stimulus.tail, cycle := s.cycle + 1 })

/-- R141: a step runs the operation that the selector names. When no fault stops the edge and the selector's word decodes to
`i`, the step is `exec i`, after which the ROM is read at the new phase for its outputs and the cycle's input is used up. -/
def Obligations.StepRunsTheSelectedOperation : Prop :=
  ∀ (s : State) (i : Instr), s.input.rst = true ∨ s.Legal → decode s.seqSelWord = .ok i →
    ∃ (t : State) (p : Phase), exec i s = .next t ∧ t.phase = p.code ∧
      step s = .next { t with romData := rom p, stimulus := s.stimulus.tail, cycle := s.cycle + 1 }

/-- R100 and R145: at an ADVANCE edge the step is the LUT entry that `{phase, cond}` addresses. -/
def Obligations.AdvanceEdgeRunsTheAddressedLutEntry : Prop :=
  ∀ (s : State) (i : Instr), s.input.rst = false → s.Legal → s.AtAdvance → decode s.lutAddrWord = .ok i →
    ∃ t : State, exec i s = .next t ∧ step s = .next { t with stimulus := s.stimulus.tail, cycle := s.cycle + 1 }

/-- R120 and R121: in the cycle that a step leads to, the ROM word that `phase` addresses has been read. -/
def Obligations.EveryCycleReadsItsRomWord : Prop :=
  ∀ s t : State, step s = .next t → ∃ i : Instr, decode t.romAddrWord = .ok i ∧ exec i t = .next t

/-- The model's choice (log entry 3): a table word placed by `withFetchWord` is what the next step runs, whatever the state,
for each of the addresses 0x00 to 0x7F; an address of row 7 faults there as it does in `exec`. -/
def Obligations.PlacedTableWordRunsNext : Prop :=
  ∀ (s : State) (w : Nat) (i : Instr), decodeTableWord 8 w = some i →
    step (s.withFetchWord 8 w) = andThen (exec i (s.withFetchWord 8 w)) fun t => .next (afterCycle t)

/-- R141, R146 and R174: what each step answers. `rst` = 1 always gives a next state; otherwise the first fault of the
rule's order is reported, with the whole register state and the cycle number (R171), and a legal state gives a next state. -/
def Obligations.StepOutcomeByPriority : Prop :=
  ∀ s : State,
    (s.input.rst = true → ∃ t, step s = .next t) ∧
    (s.input.rst = false → s.phase = 7 → step s =
      .fault (.illegalPhase { phase := s.phase, secLeft := s.secLeft, pre := s.pre, cycle := s.cycle })) ∧
    (s.input.rst = false → s.phase ≠ 7 → s.secLeft = 0 → step s =
      .fault (.illegalDwellCount { phase := s.phase, secLeft := s.secLeft, pre := s.pre, cycle := s.cycle })) ∧
    (s.input.rst = false → s.phase ≠ 7 → s.secLeft ≠ 0 → s.params.cps ≤ s.pre → step s =
      .fault (.illegalPrescale { phase := s.phase, secLeft := s.secLeft, pre := s.pre, cycle := s.cycle })) ∧
    (s.input.rst = false → s.phase ≠ 7 → s.secLeft ≠ 0 → s.pre < s.params.cps → ∃ t, step s = .next t)

/-- R171: the codes of the three faults. -/
def Obligations.FaultCodes : Prop :=
  ∀ r : FaultRecord, (Fault.illegalPhase r).code = 1 ∧ (Fault.illegalDwellCount r).code = 2 ∧
    (Fault.illegalPrescale r).code = 3

/-- R172, with R141 and R13: a step faults exactly when `rst` = 0 and the state check finds an illegal register, with the
fault that the check gives, so exactly on the illegal states; a step is never refused; a fault is never cleared; and, since
every next state is legal, a run can fault at its first edge alone. -/
def Obligations.FaultEndsTheRun : Prop :=
  (∀ (s : State) (f : Fault), step s = .fault f ↔ s.input.rst = false ∧ stateCheck s = some f) ∧
  (∀ s : State, (∃ f, step s = .fault f) ↔ s.input.rst = false ∧ ¬s.Legal) ∧
  (∀ (s : State) (r : Refusal), step s ≠ .refused r) ∧
  (∀ (k j : Nat) (s : State) (f : Fault), run k s = .fault f → run (k + j) s = .fault f) ∧
  (∀ (k : Nat) (s : State) (f : Fault), 1 ≤ s.params.cps → run k s = .fault f → step s = .fault f)

/-- R21 and R36: `phase` is written by RESET and ADVANCE alone. -/
def Obligations.PhaseChangesOnlyAtResetAndAdvance : Prop :=
  ∀ s t : State, step s = .next t →
    (s.input.rst = true → t.phase = 0) ∧
    (s.input.rst = false → s.AtAdvance → ∃ p : Phase, s.phase = p.code ∧ t.phase = (lut p s.input.cond).code) ∧
    (s.input.rst = false → ¬s.AtAdvance → t.phase = s.phase)

/-- R149: outside an ADVANCE edge `cond` is not read: the step answers the same, a fault or a next state, whatever `cond`
is; and under RESET it is not read either. -/
def Obligations.CondIsReadOnlyByAdvance : Prop :=
  ∀ (s : State) (r : Bool) (c d : Cond) (rest : CycleProgram), r = true ∨ ¬s.AtAdvance →
    step { s with stimulus := { rst := r, cond := c } :: rest } =
      step { s with stimulus := { rst := r, cond := d } :: rest }

/-- R148 (its last clause) and R149, over runs: two environments that agree on `rst` and, at the ADVANCE edges (the
selector's, with `rst` = 0: a RESET there takes no sample, R142), on `cond` lead to the same registers and lamps. -/
def Obligations.RunDependsOnlyOnTheSamples : Prop :=
  ∀ (k : Nat) (s t : State) (other : CycleProgram),
    (∀ j < k, (s.inputAt j).rst = (State.inputAt { s with stimulus := other } j).rst) →
    (∀ j < k, ∀ u, run j s = .next u → u.AtAdvance → (s.inputAt j).rst = false →
      (s.inputAt j).cond = (State.inputAt { s with stimulus := other } j).cond) →
    run k s = .next t →
    run k { s with stimulus := other } = .next { t with stimulus := other.drop k }

/-- R152: a dwell cannot be cancelled, shortened or extended by `cond`: while `rst` = 0, each edge before the ADVANCE takes
exactly one off the cycles left in the visit, and the ADVANCE comes exactly when one is left. -/
def Obligations.DwellCountsDownToTheAdvance : Prop :=
  ∀ s t : State, s.Legal → s.input.rst = false → step s = .next t →
    (s.AtAdvance ↔ s.cyclesLeft = 1) ∧
    (¬s.AtAdvance → t.phase = s.phase ∧ t.Legal ∧ t.cyclesLeft + 1 = s.cyclesLeft) ∧
    (s.AtAdvance → ∃ p : Phase, t.phase = p.code ∧ t.cyclesLeft = visitCycles p s.params.cps)

/-- R147: the visit of a phase. From its entry, and while `rst` stays 0, the state after `k` edges is
`(p, D - floor(k / CPS), k mod CPS)` with the phase's lamps, and edge `D * CPS` is the ADVANCE, which samples the condition
of the cycle before it. -/
def Obligations.VisitLastsDwellTimesCps : Prop :=
  ∀ (s : State) (p : Phase), s.phase = p.code → s.secLeft = (rom p).dwell → s.pre = 0 → s.romData = rom p →
    1 ≤ s.params.cps → (∀ j < visitCycles p s.params.cps, (s.inputAt j).rst = false) →
    visitCycles p s.params.cps = (rom p).dwell.toNat * s.params.cps ∧
    (∀ k < visitCycles p s.params.cps, run k s = .next { s with
      secLeft := BitVec.ofNat 3 ((rom p).dwell.toNat - k / s.params.cps)
      pre := k % s.params.cps
      stimulus := s.stimulus.drop k
      cycle := s.cycle + k }) ∧
    run (visitCycles p s.params.cps) s = .next (entered (lut p (s.inputAt (visitCycles p s.params.cps - 1)).cond) { s with
      stimulus := s.stimulus.drop (visitCycles p s.params.cps)
      cycle := s.cycle + visitCycles p s.params.cps })

/-- R148: the dwell level. From the entry of `p0`, while `rst` stays 0, the `k`-th ADVANCE is edge `E_k` and enters `p_k`
(`visit` gives both, by R148's recursion); in the cycles from `E_k` up to the next ADVANCE the phase and the lamps are
those of `p_k`; and of the edges that end these cycles, edge `E_(k+1)` and no other is an ADVANCE. -/
def Obligations.DwellLevelRefinesTheCycleLevel : Prop :=
  ∀ (s : State) (p0 : Phase) (k : Nat), s.phase = p0.code → s.secLeft = (rom p0).dwell → s.pre = 0 → s.romData = rom p0 →
    1 ≤ s.params.cps → (∀ j < (visit s p0 (k + 1)).2, (s.inputAt j).rst = false) →
    run (visit s p0 k).2 s = .next (entered (visit s p0 k).1 { s with
      stimulus := s.stimulus.drop (visit s p0 k).2, cycle := s.cycle + (visit s p0 k).2 }) ∧
    (∀ n, (visit s p0 k).2 ≤ n → n < (visit s p0 (k + 1)).2 → ∃ t, run n s = .next t ∧
      t.phase = (visit s p0 k).1.code ∧ t.roadA = (rom (visit s p0 k).1).chanA ∧ t.roadB = (rom (visit s p0 k).1).chanB ∧
      t.Legal ∧ t.input = s.inputAt n ∧ (t.AtAdvance ↔ n + 1 = (visit s p0 (k + 1)).2))

/-- R69 and R148: the cycle-level expansion of a dwell-level program, run from the entry of `p`, samples exactly the
program's conditions: it ends with the phase of the dwell level just entered and no input left over. -/
def Obligations.DwellProgramSamplesItsEntries : Prop :=
  ∀ (s : State) (p : Phase) (cs : DwellProgram) (rest : CycleProgram),
    s.phase = p.code → s.secLeft = (rom p).dwell → s.pre = 0 → s.romData = rom p → 1 ≤ s.params.cps →
    s.stimulus = expand s.params.cps p cs ++ rest →
    run (programCycles s.params.cps p cs) s = .next (entered (dwellRun p cs) { s with
      stimulus := rest, cycle := s.cycle + programCycles s.params.cps p cs })

/-- R150: the invariant. Every step from a legal and consistent state leads to one. -/
def Obligations.StepKeepsTheInvariant : Prop :=
  ∀ s t : State, s.Inv → step s = .next t → t.Inv

/-- R150: from ANY state of a machine with `CPS` of at least 1, a step that answers a next state leads to a legal and
consistent one; in particular one reset edge repairs any power-up state. -/
def Obligations.EveryNextStateIsLegal : Prop :=
  ∀ s t : State, 1 ≤ s.params.cps → step s = .next t → t.Inv

/-- R34, R200: the reset state: registers (0, 7, 0) and SecondaryGo's lamps; it satisfies the invariant for whatever `CPS`
the implementation has. -/
def Obligations.ResetStateIsLegal : Prop :=
  State.reset.phase = 0 ∧ State.reset.secLeft = 7 ∧ State.reset.pre = 0 ∧ State.reset.roadA = 0x10 ∧
  State.reset.roadB = 0x02 ∧ State.reset.walkP = false ∧ State.reset.walkS = false ∧ State.reset.phaseO = some 0 ∧
  1 ≤ State.reset.params.cps ∧ State.reset.Inv

/-- R150, R151: the run never ends and never faults: from a state that satisfies the invariant, and so from the reset
state, under any sequence of inputs, every number of edges leads to a state that satisfies it. -/
def Obligations.RunNeverEnds : Prop :=
  (∀ (k : Nat) (s : State), s.Inv → ∃ t, run k s = .next t ∧ t.Inv) ∧
  (∀ (k : Nat) (inputs : CycleProgram), ∃ t, run k { State.reset with stimulus := inputs } = .next t ∧
    t.phase ≠ 7 ∧ t.secLeft ≠ 0 ∧ t.pre < t.params.cps)

/-! ## State, reset and timing (10_state.md, 70_reset_and_hazards.md) -/

/-- R24 and R4: `PRE_W` is the least width that holds 0 to `CPS - 1` (0 bits when `CPS` = 1); a write keeps `PRE_W` bits;
and a value of `CPS` or more fits only when `CPS` is no power of two. -/
def Obligations.PrescalerWidthIsCeilLog : Prop :=
  preWidth 1 = 0 ∧
  (∀ cps w : Nat, 1 ≤ cps → (cps ≤ 2 ^ w ↔ preWidth cps ≤ w)) ∧
  (∀ (s : State) (n : Nat), (s.setPre n).pre = n % 2 ^ preWidth s.params.cps) ∧
  (∀ (s : State) (n : Nat), n < s.params.cps → s.setPre n = { s with pre := n }) ∧
  (∀ cps n : Nat, 1 ≤ cps → n < 2 ^ preWidth cps → cps ≤ n → ¬∃ w, cps = 2 ^ w)

/-- R201 and R125: no register survives RESET: two machines that differ only in their registers and lamps are the same
after an edge that samples `rst` = 1, with the lamps of SecondaryGo. -/
def Obligations.ResetForgetsEveryRegister : Prop :=
  ∀ (s : State) (ph : PhaseCode) (sl : Seconds) (pr : Nat) (w : RomWord), s.input.rst = true →
    step { s with phase := ph, secLeft := sl, pre := pr, romData := w } = step s ∧
    ∃ t, step s = .next t ∧ t.phase = 0 ∧ t.secLeft = 7 ∧ t.pre = 0 ∧ t.roadA = 0x10 ∧ t.roadB = 0x02 ∧
      t.walkP = false ∧ t.walkS = false

/-- R11, R37 and R178: a step uses up exactly one cycle's input and writes no parameter. -/
def Obligations.StepLeavesTheParameters : Prop :=
  ∀ s t : State, step s = .next t →
    t.params = s.params ∧ t.stimulus = s.stimulus.tail ∧ t.cycle = s.cycle + 1

/-- R210: the visit lengths, the longest of them, and the two example cycles of 18 and 14 times `CPS`. -/
def Obligations.VisitLengthsAndExampleCycles : Prop :=
  ∀ cps : Nat,
    visitCycles .secondaryGo cps = 7 * cps ∧ visitCycles .secondaryWait cps = 2 * cps ∧
    visitCycles .primaryGo cps = 7 * cps ∧ visitCycles .primaryWait cps = 2 * cps ∧
    visitCycles .secondaryWalk cps = 4 * cps ∧ visitCycles .primaryWalk cps = 4 * cps ∧
    visitCycles .secondaryGoShort cps = 3 * cps ∧ (∀ p, visitCycles p cps ≤ 7 * cps) ∧
    dwellRun .secondaryGo [2, 0, 0, 0] = .secondaryGo ∧ programCycles cps .secondaryGo [2, 0, 0, 0] = 18 * cps ∧
    dwellRun .secondaryGo [1, 0, 0] = .secondaryGo ∧ programCycles cps .secondaryGo [1, 0, 0] = 14 * cps

/-- The MODEL'S READING of three operations off the conditions under which a step selects them. The counters are unsigned
values of their widths, so SECOND subtracts modulo 8 and COUNT adds modulo 2^`PRE_W` in every state (log entry 10, DEDUCED);
ADVANCE in phase 7 has no LUT row and faults, whatever `rst` is (log entry 9, DEDUCED). -/
def Obligations.OperationsOffTheirConditions : Prop :=
  (∀ s : State, exec .seqSecond s = .next { s with secLeft := s.secLeft - 1, pre := 0 }) ∧
  (∀ (b : Bool) (s : State), exec (.seqCount b) s =
    .next { s with pre := (s.pre + 1) % 2 ^ preWidth s.params.cps }) ∧
  (∀ s : State, s.phase = 7 → exec .seqAdvance s =
    .fault (.illegalPhase { phase := s.phase, secLeft := s.secLeft, pre := s.pre, cycle := s.cycle }))
end

