-- ==== Sys2Proof/Laws/State.lean ====
section
/-!
SUPPORT. One lemma per field per update of the state, each true by `rfl`.
-/

namespace Sys2Proof.Machine

/-! ### State.setPhase -/

@[simp] theorem State.setPhase_phase (p : Phase) (s : State) : (s.setPhase p).phase = p.code := rfl
@[simp] theorem State.setPhase_secLeft (p : Phase) (s : State) : (s.setPhase p).secLeft = s.secLeft := rfl
@[simp] theorem State.setPhase_pre (p : Phase) (s : State) : (s.setPhase p).pre = s.pre := rfl
@[simp] theorem State.setPhase_romData (p : Phase) (s : State) : (s.setPhase p).romData = s.romData := rfl
@[simp] theorem State.setPhase_params (p : Phase) (s : State) : (s.setPhase p).params = s.params := rfl
@[simp] theorem State.setPhase_stimulus (p : Phase) (s : State) : (s.setPhase p).stimulus = s.stimulus := rfl
@[simp] theorem State.setPhase_cycle (p : Phase) (s : State) : (s.setPhase p).cycle = s.cycle := rfl

/-! ### State.setSecLeft -/

@[simp] theorem State.setSecLeft_phase (d : Seconds) (s : State) : (s.setSecLeft d).phase = s.phase := rfl
@[simp] theorem State.setSecLeft_secLeft (d : Seconds) (s : State) : (s.setSecLeft d).secLeft = d := rfl
@[simp] theorem State.setSecLeft_pre (d : Seconds) (s : State) : (s.setSecLeft d).pre = s.pre := rfl
@[simp] theorem State.setSecLeft_romData (d : Seconds) (s : State) : (s.setSecLeft d).romData = s.romData := rfl
@[simp] theorem State.setSecLeft_params (d : Seconds) (s : State) : (s.setSecLeft d).params = s.params := rfl
@[simp] theorem State.setSecLeft_stimulus (d : Seconds) (s : State) : (s.setSecLeft d).stimulus = s.stimulus := rfl
@[simp] theorem State.setSecLeft_cycle (d : Seconds) (s : State) : (s.setSecLeft d).cycle = s.cycle := rfl

/-! ### State.setPre -/

@[simp] theorem State.setPre_phase (n : Nat) (s : State) : (s.setPre n).phase = s.phase := rfl
@[simp] theorem State.setPre_secLeft (n : Nat) (s : State) : (s.setPre n).secLeft = s.secLeft := rfl
@[simp] theorem State.setPre_pre (n : Nat) (s : State) : (s.setPre n).pre = n % 2 ^ preWidth s.params.cps := rfl
@[simp] theorem State.setPre_romData (n : Nat) (s : State) : (s.setPre n).romData = s.romData := rfl
@[simp] theorem State.setPre_params (n : Nat) (s : State) : (s.setPre n).params = s.params := rfl
@[simp] theorem State.setPre_stimulus (n : Nat) (s : State) : (s.setPre n).stimulus = s.stimulus := rfl
@[simp] theorem State.setPre_cycle (n : Nat) (s : State) : (s.setPre n).cycle = s.cycle := rfl

/-! ### State.setRomData -/

@[simp] theorem State.setRomData_phase (w : RomWord) (s : State) : (s.setRomData w).phase = s.phase := rfl
@[simp] theorem State.setRomData_secLeft (w : RomWord) (s : State) : (s.setRomData w).secLeft = s.secLeft := rfl
@[simp] theorem State.setRomData_pre (w : RomWord) (s : State) : (s.setRomData w).pre = s.pre := rfl
@[simp] theorem State.setRomData_romData (w : RomWord) (s : State) : (s.setRomData w).romData = w := rfl
@[simp] theorem State.setRomData_params (w : RomWord) (s : State) : (s.setRomData w).params = s.params := rfl
@[simp] theorem State.setRomData_stimulus (w : RomWord) (s : State) : (s.setRomData w).stimulus = s.stimulus := rfl
@[simp] theorem State.setRomData_cycle (w : RomWord) (s : State) : (s.setRomData w).cycle = s.cycle := rfl

/-! ### readRom -/

@[simp] theorem readRom_phase (p : Phase) (s : State) : (readRom p s).phase = s.phase := rfl
@[simp] theorem readRom_secLeft (p : Phase) (s : State) : (readRom p s).secLeft = s.secLeft := rfl
@[simp] theorem readRom_pre (p : Phase) (s : State) : (readRom p s).pre = s.pre := rfl
@[simp] theorem readRom_romData (p : Phase) (s : State) : (readRom p s).romData = rom p := rfl
@[simp] theorem readRom_params (p : Phase) (s : State) : (readRom p s).params = s.params := rfl
@[simp] theorem readRom_stimulus (p : Phase) (s : State) : (readRom p s).stimulus = s.stimulus := rfl
@[simp] theorem readRom_cycle (p : Phase) (s : State) : (readRom p s).cycle = s.cycle := rfl

/-! ### enterPhase -/

@[simp] theorem enterPhase_phase (p : Phase) (s : State) : (enterPhase p s).phase = p.code := rfl
@[simp] theorem enterPhase_secLeft (p : Phase) (s : State) : (enterPhase p s).secLeft = (rom p).dwell := rfl
@[simp] theorem enterPhase_pre (p : Phase) (s : State) : (enterPhase p s).pre = 0 := Nat.zero_mod _
@[simp] theorem enterPhase_romData (p : Phase) (s : State) : (enterPhase p s).romData = rom p := rfl
@[simp] theorem enterPhase_params (p : Phase) (s : State) : (enterPhase p s).params = s.params := rfl
@[simp] theorem enterPhase_stimulus (p : Phase) (s : State) : (enterPhase p s).stimulus = s.stimulus := rfl
@[simp] theorem enterPhase_cycle (p : Phase) (s : State) : (enterPhase p s).cycle = s.cycle := rfl

/-! ### tick -/

@[simp] theorem tick_phase (s : State) : (tick s).phase = s.phase := rfl
@[simp] theorem tick_secLeft (s : State) : (tick s).secLeft = s.secLeft := rfl
@[simp] theorem tick_pre (s : State) : (tick s).pre = s.pre := rfl
@[simp] theorem tick_romData (s : State) : (tick s).romData = s.romData := rfl
@[simp] theorem tick_params (s : State) : (tick s).params = s.params := rfl
@[simp] theorem tick_stimulus (s : State) : (tick s).stimulus = s.stimulus.tail := rfl
@[simp] theorem tick_cycle (s : State) : (tick s).cycle = s.cycle + 1 := rfl

end Sys2Proof.Machine
end

