-- ==== Sys2Proof/Laws/Ops.lean ====
section
/-!
SUPPORT. For each shared operation one lemma that says once everything it can do; proofs cite these and do not unfold the
operations.
-/

namespace Sys2Proof.Machine

/-! ### Phase codes -/

@[simp] theorem ofCode_code (p : Phase) : Phase.ofCode p.code = some p := by cases p <;> rfl

/-- A 3-bit code names a phase, or it is 7. -/
theorem ofCode_cases (c : PhaseCode) : (∃ p : Phase, c = p.code ∧ Phase.ofCode c = some p) ∨ (c = 7 ∧ Phase.ofCode c = none) := by
  have table : ∀ d : BitVec 3, d = 0 ∨ d = 1 ∨ d = 2 ∨ d = 3 ∨ d = 4 ∨ d = 5 ∨ d = 6 ∨ d = 7 := by decide
  rcases table c with h | h | h | h | h | h | h | h <;> subst h
  · exact .inl ⟨.secondaryGo, rfl, rfl⟩
  · exact .inl ⟨.secondaryWait, rfl, rfl⟩
  · exact .inl ⟨.primaryGo, rfl, rfl⟩
  · exact .inl ⟨.primaryWait, rfl, rfl⟩
  · exact .inl ⟨.secondaryWalk, rfl, rfl⟩
  · exact .inl ⟨.primaryWalk, rfl, rfl⟩
  · exact .inl ⟨.secondaryGoShort, rfl, rfl⟩
  · exact .inr ⟨rfl, rfl⟩

theorem code_ne_seven (p : Phase) : p.code ≠ 7 := by cases p <;> decide

theorem exists_code_of_ne_seven {c : PhaseCode} (h : c ≠ 7) : ∃ p : Phase, c = p.code := by
  rcases ofCode_cases c with ⟨p, hp, -⟩ | ⟨h7, -⟩
  · exact ⟨p, hp⟩
  · exact absurd h7 h

theorem code_injective {p q : Phase} (h : p.code = q.code) : p = q := by
  have := congrArg Phase.ofCode h
  simpa using this

/-! ### The prescaler's width -/

/-- The prescaler holds every value below `CPS` (R24). -/
theorem cps_le_two_pow_preWidth (cps : Nat) : cps ≤ 2 ^ preWidth cps := by
  unfold preWidth
  split
  · simpa using ‹cps ≤ 1›
  · have := Nat.lt_log2_self (n := cps - 1)
    omega

/-- A write of a legal value to the prescaler stores that value. -/
theorem setPre_of_lt {n : Nat} {s : State} (h : n < s.params.cps) : s.setPre n = { s with pre := n } := by
  have := Nat.mod_eq_of_lt (lt_of_lt_of_le h (cps_le_two_pow_preWidth s.params.cps))
  simp only [State.setPre, this]

@[simp] theorem setPre_zero (s : State) : s.setPre 0 = { s with pre := 0 } := by
  simp only [State.setPre, Nat.zero_mod]

/-! ### Entering a phase -/

/-- Entering a phase writes the three registers and the lamps, and nothing else. -/
theorem enterPhase_eq (p : Phase) (s : State) : enterPhase p s = entered p s := by
  simp only [enterPhase, setPre_zero]
  rfl

theorem lutEdge_eq (p : Phase) (c : Cond) (s : State) : lutEdge p c s = .next (entered (lut p c) s) := by
  simp only [lutEdge, enterPhase_eq]

/-- Reading the ROM again at the phase just entered changes nothing. -/
@[simp] theorem readRom_entered (p : Phase) (s : State) : readRom p (entered p s) = entered p s := rfl

theorem tick_eq_afterCycle (s : State) : tick s = afterCycle s := rfl

/-! ### The state check -/

theorem stateCheck_legal {s : State} (h : s.Legal) : stateCheck s = none := by
  obtain ⟨h7, h0, hp⟩ := h
  rw [stateCheck, if_neg h7, if_neg h0, if_neg (Nat.not_le.mpr hp)]

/-- The state check passes on the legal states alone. -/
theorem stateCheck_eq_none_iff (s : State) : stateCheck s = none ↔ s.Legal := by
  constructor
  · intro h
    unfold stateCheck at h
    split at h
    · cases h
    · split at h
      · cases h
      · split at h
        · cases h
        · exact ⟨‹_›, ‹_›, Nat.not_le.mp ‹_›⟩
  · exact stateCheck_legal

/-! ### andThen -/

@[simp] theorem andThen_next (s : State) (f : State → Host.Outcome State Fault Refusal) : andThen (.next s) f = f s := rfl

@[simp] theorem andThen_fault (r : Fault) (f : State → Host.Outcome State Fault Refusal) :
    andThen (.fault r) f = .fault r := rfl

/-- A sequence that answers a next state ran both parts. -/
theorem andThen_eq_next {o : Host.Outcome State Fault Refusal} {f : State → Host.Outcome State Fault Refusal} {u : State}
    (h : andThen o f = .next u) : ∃ t, o = .next t ∧ f t = .next u := by
  cases o with
  | next t => exact ⟨t, rfl, h⟩
  | fault r => cases h
  | refused r => cases h

/-! ### The operations of the sequencer, as `exec` runs them -/

@[simp] theorem exec_seqReset (secEnd lastSec : Bool) (s : State) :
    exec (.seqReset secEnd lastSec) s = .next (entered .secondaryGo s) :=
  congrArg Host.Outcome.next (enterPhase_eq .secondaryGo s)

@[simp] theorem exec_seqSecond (s : State) :
    exec .seqSecond s = .next { s with secLeft := s.secLeft - 1, pre := 0 } :=
  congrArg Host.Outcome.next (setPre_zero _)

theorem exec_seqCount (lastSec : Bool) (s : State) : exec (.seqCount lastSec) s = .next (s.setPre (s.pre + 1)) := rfl

theorem exec_seqAdvance {s : State} {p : Phase} (h : s.phase = p.code) :
    exec .seqAdvance s = .next (entered (lut p s.input.cond) s) := by
  change execSeqAdvance s = _
  simp only [execSeqAdvance, h, ofCode_code, lutEdge_eq]
  rfl

/-- The ROM word of a phase, as `exec` reads it. -/
theorem exec_romRead (p : Phase) (s : State) : exec (decodeRomAddr p.code) s = .next (readRom p s) := by
  cases p <;> rfl

/-- The LUT entry of a phase and a condition, as `exec` runs it. -/
theorem exec_lutEntry (p : Phase) (c : Cond) (s : State) :
    exec (decodeLutAddr (lutAddr p.code c)) s = .next (entered (lut p c) s) := by
  have table : ∀ d : BitVec 4, d = 0 ∨ d = 1 ∨ d = 2 ∨ d = 3 ∨ d = 4 ∨ d = 5 ∨ d = 6 ∨ d = 7 ∨ d = 8 ∨ d = 9 ∨ d = 10 ∨
      d = 11 ∨ d = 12 ∨ d = 13 ∨ d = 14 ∨ d = 15 := by decide
  rw [← lutEdge_eq]
  cases p <;> rcases table c with h | h | h | h | h | h | h | h | h | h | h | h | h | h | h | h <;> subst h <;> rfl

end Sys2Proof.Machine
end

