-- ==== Sys2Proof/Laws/PerInstr.lean ====
section
/-!
SUPPORT. Laws of single instructions as syntax: every constructor's encoding is a word of its format (30_encoding.md R60).
-/

namespace Sys2Proof.Laws

/-- The encoding of `i` has no bit beyond its format's width. -/
def EncodingFits.Statement (i : Instr) : Prop := (encode i).wf = true

theorem EncodingFits.lutSecondaryGo0 : EncodingFits.Statement .lutSecondaryGo0 := rfl

theorem EncodingFits.lutSecondaryGo1 : EncodingFits.Statement .lutSecondaryGo1 := rfl

theorem EncodingFits.lutSecondaryGo2 : EncodingFits.Statement .lutSecondaryGo2 := rfl

theorem EncodingFits.lutSecondaryGo3 : EncodingFits.Statement .lutSecondaryGo3 := rfl

theorem EncodingFits.lutSecondaryGo4 : EncodingFits.Statement .lutSecondaryGo4 := rfl

theorem EncodingFits.lutSecondaryGo5 : EncodingFits.Statement .lutSecondaryGo5 := rfl

theorem EncodingFits.lutSecondaryGo6 : EncodingFits.Statement .lutSecondaryGo6 := rfl

theorem EncodingFits.lutSecondaryGo7 : EncodingFits.Statement .lutSecondaryGo7 := rfl

theorem EncodingFits.lutSecondaryGo8 : EncodingFits.Statement .lutSecondaryGo8 := rfl

theorem EncodingFits.lutSecondaryGo9 : EncodingFits.Statement .lutSecondaryGo9 := rfl

theorem EncodingFits.lutSecondaryGoA : EncodingFits.Statement .lutSecondaryGoA := rfl

theorem EncodingFits.lutSecondaryGoB : EncodingFits.Statement .lutSecondaryGoB := rfl

theorem EncodingFits.lutSecondaryGoC : EncodingFits.Statement .lutSecondaryGoC := rfl

theorem EncodingFits.lutSecondaryGoD : EncodingFits.Statement .lutSecondaryGoD := rfl

theorem EncodingFits.lutSecondaryGoE : EncodingFits.Statement .lutSecondaryGoE := rfl

theorem EncodingFits.lutSecondaryGoF : EncodingFits.Statement .lutSecondaryGoF := rfl

theorem EncodingFits.lutSecondaryWait0 : EncodingFits.Statement .lutSecondaryWait0 := rfl

theorem EncodingFits.lutSecondaryWait1 : EncodingFits.Statement .lutSecondaryWait1 := rfl

theorem EncodingFits.lutSecondaryWait2 : EncodingFits.Statement .lutSecondaryWait2 := rfl

theorem EncodingFits.lutSecondaryWait3 : EncodingFits.Statement .lutSecondaryWait3 := rfl

theorem EncodingFits.lutSecondaryWait4 : EncodingFits.Statement .lutSecondaryWait4 := rfl

theorem EncodingFits.lutSecondaryWait5 : EncodingFits.Statement .lutSecondaryWait5 := rfl

theorem EncodingFits.lutSecondaryWait6 : EncodingFits.Statement .lutSecondaryWait6 := rfl

theorem EncodingFits.lutSecondaryWait7 : EncodingFits.Statement .lutSecondaryWait7 := rfl

theorem EncodingFits.lutSecondaryWait8 : EncodingFits.Statement .lutSecondaryWait8 := rfl

theorem EncodingFits.lutSecondaryWait9 : EncodingFits.Statement .lutSecondaryWait9 := rfl

theorem EncodingFits.lutSecondaryWaitA : EncodingFits.Statement .lutSecondaryWaitA := rfl

theorem EncodingFits.lutSecondaryWaitB : EncodingFits.Statement .lutSecondaryWaitB := rfl

theorem EncodingFits.lutSecondaryWaitC : EncodingFits.Statement .lutSecondaryWaitC := rfl

theorem EncodingFits.lutSecondaryWaitD : EncodingFits.Statement .lutSecondaryWaitD := rfl

theorem EncodingFits.lutSecondaryWaitE : EncodingFits.Statement .lutSecondaryWaitE := rfl

theorem EncodingFits.lutSecondaryWaitF : EncodingFits.Statement .lutSecondaryWaitF := rfl

theorem EncodingFits.lutPrimaryGo0 : EncodingFits.Statement .lutPrimaryGo0 := rfl

theorem EncodingFits.lutPrimaryGo1 : EncodingFits.Statement .lutPrimaryGo1 := rfl

theorem EncodingFits.lutPrimaryGo2 : EncodingFits.Statement .lutPrimaryGo2 := rfl

theorem EncodingFits.lutPrimaryGo3 : EncodingFits.Statement .lutPrimaryGo3 := rfl

theorem EncodingFits.lutPrimaryGo4 : EncodingFits.Statement .lutPrimaryGo4 := rfl

theorem EncodingFits.lutPrimaryGo5 : EncodingFits.Statement .lutPrimaryGo5 := rfl

theorem EncodingFits.lutPrimaryGo6 : EncodingFits.Statement .lutPrimaryGo6 := rfl

theorem EncodingFits.lutPrimaryGo7 : EncodingFits.Statement .lutPrimaryGo7 := rfl

theorem EncodingFits.lutPrimaryGo8 : EncodingFits.Statement .lutPrimaryGo8 := rfl

theorem EncodingFits.lutPrimaryGo9 : EncodingFits.Statement .lutPrimaryGo9 := rfl

theorem EncodingFits.lutPrimaryGoA : EncodingFits.Statement .lutPrimaryGoA := rfl

theorem EncodingFits.lutPrimaryGoB : EncodingFits.Statement .lutPrimaryGoB := rfl

theorem EncodingFits.lutPrimaryGoC : EncodingFits.Statement .lutPrimaryGoC := rfl

theorem EncodingFits.lutPrimaryGoD : EncodingFits.Statement .lutPrimaryGoD := rfl

theorem EncodingFits.lutPrimaryGoE : EncodingFits.Statement .lutPrimaryGoE := rfl

theorem EncodingFits.lutPrimaryGoF : EncodingFits.Statement .lutPrimaryGoF := rfl

theorem EncodingFits.lutPrimaryWait0 : EncodingFits.Statement .lutPrimaryWait0 := rfl

theorem EncodingFits.lutPrimaryWait1 : EncodingFits.Statement .lutPrimaryWait1 := rfl

theorem EncodingFits.lutPrimaryWait2 : EncodingFits.Statement .lutPrimaryWait2 := rfl

theorem EncodingFits.lutPrimaryWait3 : EncodingFits.Statement .lutPrimaryWait3 := rfl

theorem EncodingFits.lutPrimaryWait4 : EncodingFits.Statement .lutPrimaryWait4 := rfl

theorem EncodingFits.lutPrimaryWait5 : EncodingFits.Statement .lutPrimaryWait5 := rfl

theorem EncodingFits.lutPrimaryWait6 : EncodingFits.Statement .lutPrimaryWait6 := rfl

theorem EncodingFits.lutPrimaryWait7 : EncodingFits.Statement .lutPrimaryWait7 := rfl

theorem EncodingFits.lutPrimaryWait8 : EncodingFits.Statement .lutPrimaryWait8 := rfl

theorem EncodingFits.lutPrimaryWait9 : EncodingFits.Statement .lutPrimaryWait9 := rfl

theorem EncodingFits.lutPrimaryWaitA : EncodingFits.Statement .lutPrimaryWaitA := rfl

theorem EncodingFits.lutPrimaryWaitB : EncodingFits.Statement .lutPrimaryWaitB := rfl

theorem EncodingFits.lutPrimaryWaitC : EncodingFits.Statement .lutPrimaryWaitC := rfl

theorem EncodingFits.lutPrimaryWaitD : EncodingFits.Statement .lutPrimaryWaitD := rfl

theorem EncodingFits.lutPrimaryWaitE : EncodingFits.Statement .lutPrimaryWaitE := rfl

theorem EncodingFits.lutPrimaryWaitF : EncodingFits.Statement .lutPrimaryWaitF := rfl

theorem EncodingFits.lutSecondaryWalk0 : EncodingFits.Statement .lutSecondaryWalk0 := rfl

theorem EncodingFits.lutSecondaryWalk1 : EncodingFits.Statement .lutSecondaryWalk1 := rfl

theorem EncodingFits.lutSecondaryWalk2 : EncodingFits.Statement .lutSecondaryWalk2 := rfl

theorem EncodingFits.lutSecondaryWalk3 : EncodingFits.Statement .lutSecondaryWalk3 := rfl

theorem EncodingFits.lutSecondaryWalk4 : EncodingFits.Statement .lutSecondaryWalk4 := rfl

theorem EncodingFits.lutSecondaryWalk5 : EncodingFits.Statement .lutSecondaryWalk5 := rfl

theorem EncodingFits.lutSecondaryWalk6 : EncodingFits.Statement .lutSecondaryWalk6 := rfl

theorem EncodingFits.lutSecondaryWalk7 : EncodingFits.Statement .lutSecondaryWalk7 := rfl

theorem EncodingFits.lutSecondaryWalk8 : EncodingFits.Statement .lutSecondaryWalk8 := rfl

theorem EncodingFits.lutSecondaryWalk9 : EncodingFits.Statement .lutSecondaryWalk9 := rfl

theorem EncodingFits.lutSecondaryWalkA : EncodingFits.Statement .lutSecondaryWalkA := rfl

theorem EncodingFits.lutSecondaryWalkB : EncodingFits.Statement .lutSecondaryWalkB := rfl

theorem EncodingFits.lutSecondaryWalkC : EncodingFits.Statement .lutSecondaryWalkC := rfl

theorem EncodingFits.lutSecondaryWalkD : EncodingFits.Statement .lutSecondaryWalkD := rfl

theorem EncodingFits.lutSecondaryWalkE : EncodingFits.Statement .lutSecondaryWalkE := rfl

theorem EncodingFits.lutSecondaryWalkF : EncodingFits.Statement .lutSecondaryWalkF := rfl

theorem EncodingFits.lutPrimaryWalk0 : EncodingFits.Statement .lutPrimaryWalk0 := rfl

theorem EncodingFits.lutPrimaryWalk1 : EncodingFits.Statement .lutPrimaryWalk1 := rfl

theorem EncodingFits.lutPrimaryWalk2 : EncodingFits.Statement .lutPrimaryWalk2 := rfl

theorem EncodingFits.lutPrimaryWalk3 : EncodingFits.Statement .lutPrimaryWalk3 := rfl

theorem EncodingFits.lutPrimaryWalk4 : EncodingFits.Statement .lutPrimaryWalk4 := rfl

theorem EncodingFits.lutPrimaryWalk5 : EncodingFits.Statement .lutPrimaryWalk5 := rfl

theorem EncodingFits.lutPrimaryWalk6 : EncodingFits.Statement .lutPrimaryWalk6 := rfl

theorem EncodingFits.lutPrimaryWalk7 : EncodingFits.Statement .lutPrimaryWalk7 := rfl

theorem EncodingFits.lutPrimaryWalk8 : EncodingFits.Statement .lutPrimaryWalk8 := rfl

theorem EncodingFits.lutPrimaryWalk9 : EncodingFits.Statement .lutPrimaryWalk9 := rfl

theorem EncodingFits.lutPrimaryWalkA : EncodingFits.Statement .lutPrimaryWalkA := rfl

theorem EncodingFits.lutPrimaryWalkB : EncodingFits.Statement .lutPrimaryWalkB := rfl

theorem EncodingFits.lutPrimaryWalkC : EncodingFits.Statement .lutPrimaryWalkC := rfl

theorem EncodingFits.lutPrimaryWalkD : EncodingFits.Statement .lutPrimaryWalkD := rfl

theorem EncodingFits.lutPrimaryWalkE : EncodingFits.Statement .lutPrimaryWalkE := rfl

theorem EncodingFits.lutPrimaryWalkF : EncodingFits.Statement .lutPrimaryWalkF := rfl

theorem EncodingFits.lutSecondaryGoShort0 : EncodingFits.Statement .lutSecondaryGoShort0 := rfl

theorem EncodingFits.lutSecondaryGoShort1 : EncodingFits.Statement .lutSecondaryGoShort1 := rfl

theorem EncodingFits.lutSecondaryGoShort2 : EncodingFits.Statement .lutSecondaryGoShort2 := rfl

theorem EncodingFits.lutSecondaryGoShort3 : EncodingFits.Statement .lutSecondaryGoShort3 := rfl

theorem EncodingFits.lutSecondaryGoShort4 : EncodingFits.Statement .lutSecondaryGoShort4 := rfl

theorem EncodingFits.lutSecondaryGoShort5 : EncodingFits.Statement .lutSecondaryGoShort5 := rfl

theorem EncodingFits.lutSecondaryGoShort6 : EncodingFits.Statement .lutSecondaryGoShort6 := rfl

theorem EncodingFits.lutSecondaryGoShort7 : EncodingFits.Statement .lutSecondaryGoShort7 := rfl

theorem EncodingFits.lutSecondaryGoShort8 : EncodingFits.Statement .lutSecondaryGoShort8 := rfl

theorem EncodingFits.lutSecondaryGoShort9 : EncodingFits.Statement .lutSecondaryGoShort9 := rfl

theorem EncodingFits.lutSecondaryGoShortA : EncodingFits.Statement .lutSecondaryGoShortA := rfl

theorem EncodingFits.lutSecondaryGoShortB : EncodingFits.Statement .lutSecondaryGoShortB := rfl

theorem EncodingFits.lutSecondaryGoShortC : EncodingFits.Statement .lutSecondaryGoShortC := rfl

theorem EncodingFits.lutSecondaryGoShortD : EncodingFits.Statement .lutSecondaryGoShortD := rfl

theorem EncodingFits.lutSecondaryGoShortE : EncodingFits.Statement .lutSecondaryGoShortE := rfl

theorem EncodingFits.lutSecondaryGoShortF : EncodingFits.Statement .lutSecondaryGoShortF := rfl

theorem EncodingFits.lutIllegal (cond : Cond) : EncodingFits.Statement (.lutIllegal cond) := by
  have h := cond.isLt
  simp only [EncodingFits.Statement, encode, lutWord, CodeWord.wf, Format.width]
  exact decide_eq_true (by omega)

theorem EncodingFits.romSecondaryGo : EncodingFits.Statement .romSecondaryGo := rfl

theorem EncodingFits.romSecondaryWait : EncodingFits.Statement .romSecondaryWait := rfl

theorem EncodingFits.romPrimaryGo : EncodingFits.Statement .romPrimaryGo := rfl

theorem EncodingFits.romPrimaryWait : EncodingFits.Statement .romPrimaryWait := rfl

theorem EncodingFits.romSecondaryWalk : EncodingFits.Statement .romSecondaryWalk := rfl

theorem EncodingFits.romPrimaryWalk : EncodingFits.Statement .romPrimaryWalk := rfl

theorem EncodingFits.romSecondaryGoShort : EncodingFits.Statement .romSecondaryGoShort := rfl

theorem EncodingFits.romIllegal : EncodingFits.Statement .romIllegal := rfl

theorem EncodingFits.seqReset (secEnd lastSec : Bool) : EncodingFits.Statement (.seqReset secEnd lastSec) := by
  cases secEnd <;> cases lastSec <;> rfl

theorem EncodingFits.seqAdvance : EncodingFits.Statement .seqAdvance := rfl

theorem EncodingFits.seqSecond : EncodingFits.Statement .seqSecond := rfl

theorem EncodingFits.seqCount (lastSec : Bool) : EncodingFits.Statement (.seqCount lastSec) := by
  cases lastSec <;> rfl

end Sys2Proof.Laws
end

