-- ==== Sys2Proof/Laws/Step.lean ====
section
/-!
SUPPORT. What one step does, said once: the forward equations by the state of the inputs and registers, and the inversion
`step_cases` (43_dwell_sequencer.md rule R141).
-/

namespace Sys2Proof.Machine

/-! ### The selector and what it fetches -/

theorem fetchSeq_of_rst {s : State} (h : s.input.rst = true) : fetchSeq s = .seqReset s.secEnd s.lastSec := by
  simp only [fetchSeq, State.selector, h]
  cases s.secEnd <;> cases s.lastSec <;> rfl

theorem fetchSeq_of_not_rst {s : State} (h : s.input.rst = false) :
    fetchSeq s = if s.pre = s.params.cps - 1 then (if s.secLeft = 1 then .seqAdvance else .seqSecond)
      else .seqCount s.lastSec := by
  simp only [fetchSeq, State.selector, h, State.secEnd, State.lastSec]
  by_cases hp : s.pre = s.params.cps - 1 <;> by_cases hl : s.secLeft = 1 <;> simp only [hp, hl, if_true, if_false] <;> rfl

/-! ### Forward equations -/

/-- The end of a cycle whose operation left a state with a phase: the ROM is read there and the input is used up. -/
theorem finish_eq {t : State} {p : Phase} (h : t.phase = p.code) :
    (andThen (exec (fetchRom t) t) fun u => .next (tick u)) = .next (afterCycle { t with romData := rom p }) := by
  have hf : fetchRom t = decodeRomAddr p.code := congrArg decodeRomAddr h
  rw [hf, exec_romRead]
  rfl

theorem step_of_rst {s : State} (h : s.input.rst = true) : step s = .next (afterCycle (entered .secondaryGo s)) := by
  have g : gate s = none := by simp [gate, h]
  simp only [step, g, fetchSeq_of_rst h, exec_seqReset, andThen_next]
  exact finish_eq (p := .secondaryGo) rfl

theorem step_of_illegal {s : State} {f : Fault} (h : s.input.rst = false) (hf : stateCheck s = some f) :
    step s = .fault f := by
  have g : gate s = some f := by simp [gate, h, hf]
  simp only [step, g]

theorem step_of_legal {s : State} {p : Phase} (h : s.input.rst = false) (hl : s.Legal) (hp : s.phase = p.code) :
    step s = .next (afterCycle
      (if s.pre = s.params.cps - 1 then
        if s.secLeft = 1 then entered (lut p s.input.cond) s
        else { s with secLeft := s.secLeft - 1, pre := 0, romData := rom p }
      else { s with pre := s.pre + 1, romData := rom p })) := by
  have g : gate s = none := by simp [gate, h, stateCheck_legal hl]
  simp only [step, g, fetchSeq_of_not_rst h]
  by_cases hc : s.pre = s.params.cps - 1
  · by_cases h1 : s.secLeft = 1
    · simp only [if_pos hc, if_pos h1, exec_seqAdvance hp, andThen_next]
      exact finish_eq rfl
    · simp only [if_pos hc, if_neg h1, exec_seqSecond, andThen_next]
      exact finish_eq hp
  · have hlt : s.pre + 1 < s.params.cps := by have := hl.2.2; omega
    simp only [if_neg hc, exec_seqCount, setPre_of_lt hlt, andThen_next]
    exact finish_eq hp

/-! ### Inversion -/

/-- A step that answers a next state was a RESET, or an ADVANCE, SECOND or COUNT from a legal state. -/
theorem step_cases {s u : State} (h : step s = .next u) :
    (s.input.rst = true ∧ u = afterCycle (entered .secondaryGo s)) ∨
    (s.input.rst = false ∧ s.Legal ∧ ∃ p : Phase, s.phase = p.code ∧
      ((s.pre = s.params.cps - 1 ∧ s.secLeft = 1 ∧ u = afterCycle (entered (lut p s.input.cond) s)) ∨
       (s.pre = s.params.cps - 1 ∧ s.secLeft ≠ 1 ∧
          u = afterCycle { s with secLeft := s.secLeft - 1, pre := 0, romData := rom p }) ∨
       (s.pre ≠ s.params.cps - 1 ∧ u = afterCycle { s with pre := s.pre + 1, romData := rom p }))) := by
  cases hr : s.input.rst with
  | true =>
    rw [step_of_rst hr] at h
    cases h
    exact .inl ⟨rfl, rfl⟩
  | false =>
    cases hf : stateCheck s with
    | some f =>
      rw [step_of_illegal hr hf] at h
      cases h
    | none =>
      have hl := (stateCheck_eq_none_iff s).mp hf
      obtain ⟨p, hp⟩ := exists_code_of_ne_seven hl.1
      rw [step_of_legal hr hl hp] at h
      cases h
      refine .inr ⟨rfl, hl, p, hp, ?_⟩
      by_cases hc : s.pre = s.params.cps - 1
      · by_cases h1 : s.secLeft = 1
        · exact .inl ⟨hc, h1, by rw [if_pos hc, if_pos h1]⟩
        · exact .inr (.inl ⟨hc, h1, by rw [if_pos hc, if_neg h1]⟩)
      · exact .inr (.inr ⟨hc, by rw [if_neg hc]⟩)

/-! ### Runs -/

@[simp] theorem run_zero (s : State) : run 0 s = .next s := rfl

theorem run_succ (k : Nat) (s : State) : run (k + 1) s = andThen (step s) (run k) := rfl

theorem coreRun_next (M : Host.Core) (k : Nat) {s t : M.State} (h : M.step s = .next t) :
    M.run (k + 1) s = M.run k t := by
  simp only [Host.Core.run, h]

theorem coreRun_fault (M : Host.Core) (k : Nat) {s : M.State} {r : M.Fault} (h : M.step s = .fault r) :
    M.run (k + 1) s = .fault r := by
  simp only [Host.Core.run, h]

theorem coreRun_refused (M : Host.Core) (k : Nat) {s : M.State} {r : M.Refusal} (h : M.step s = .refused r) :
    M.run (k + 1) s = .refused r := by
  simp only [Host.Core.run, h]

/-- The runs that claims speak of are the runs of the host's interface. -/
theorem run_eq_core_run (k : Nat) (s : State) : run k s = Host.Core.run Sys2Proof.core k s := by
  induction k generalizing s with
  | zero => rfl
  | succ k ih =>
    rw [run_succ]
    cases h : step s with
    | next t => exact (ih t).trans (coreRun_next Sys2Proof.core k (s := s) h).symm
    | fault r => exact (coreRun_fault Sys2Proof.core k (s := s) h).symm
    | refused r => exact (coreRun_refused Sys2Proof.core k (s := s) h).symm

/-- A run is cut at any edge. -/
theorem run_add (j k : Nat) (s : State) : run (j + k) s = andThen (run j s) (run k) := by
  induction j generalizing s with
  | zero => simp only [Nat.zero_add, run_zero, andThen_next]
  | succ j ih =>
    rw [Nat.add_right_comm, run_succ, run_succ]
    cases step s with
    | next t => simpa only [andThen_next] using ih t
    | fault r => rfl
    | refused r => rfl

/-! ### The inputs to come -/

theorem inputAt_zero (s : State) : s.inputAt 0 = s.input := by
  cases h : s.stimulus <;> simp [State.inputAt, State.input, h]

/-- One cycle later every input is one cycle nearer, whatever the registers. -/
theorem inputAt_afterCycle {s t : State} (hs : t.stimulus = s.stimulus) (hc : t.cycle = s.cycle) (n : Nat) :
    (afterCycle t).inputAt n = s.inputAt (n + 1) := by
  cases h : s.stimulus <;> simp [State.inputAt, afterCycle, hs, hc, h, Nat.add_comm, Nat.add_left_comm]

end Sys2Proof.Machine
end

