-- ==== Sys2Proof/Tests/Slice0.lean ====
section
/-!
SUPPORT. The model's own tests. Expected results come from the spec: the words from 30_encoding.md and 20_memory.md rule
R46, the states from the vectors of 95_test_vectors.md, the ROM words from R62.
-/

namespace Sys2Proof.Tests

open Sys2Proof.Machine

/-- A cycle of a machine with the given `CPS`, registers and inputs, showing SecondaryGo's lamps. -/
def cycleOf (cps : Nat) (phase : PhaseCode) (secLeft : Seconds) (pre : Nat) (rst : Bool) (cond : Cond) : State :=
  { phase := phase
    secLeft := secLeft
    pre := pre
    romData := { dwell := 7, chanA := 0x10, chanB := 0x02 }
    params := { cps := cps, hasPhaseO := true }
    stimulus := [{ rst := rst, cond := cond }]
    cycle := 0 }

/-- The same cycle, showing the lamps of `p`. -/
def cycleIn (cps : Nat) (p : Phase) (secLeft : Seconds) (pre : Nat) (rst : Bool) (cond : Cond) : State :=
  { cycleOf cps p.code secLeft pre rst cond with romData := rom p }

/-- The registers `(phase, sec_left, pre)` of a next state. -/
def registers : Host.Outcome State Fault Refusal → Option (PhaseCode × Seconds × Nat)
  | .next s => some (s.phase, s.secLeft, s.pre)
  | .fault _ => none
  | .refused _ => none

/-- The lamp ports of a next state. -/
def lamps : Host.Outcome State Fault Refusal → Option (Channel × Channel × Bool × Bool)
  | .next s => some (s.roadA, s.roadB, s.walkP, s.walkS)
  | .fault _ => none
  | .refused _ => none

/-- The fault that ended a run. -/
def faultOf : Host.Outcome State Fault Refusal → Option Fault
  | .next _ => none
  | .fault f => some f
  | .refused _ => none

/-- The instruction that a word decodes to. -/
def decoded (w : CodeWord) : Option Instr :=
  match decode w with
  | .ok i => some i
  | .error _ => none

/-! ### Well-formedness: an ill-formed term for each check -/

theorem test_wf_refuses_eight_bit_lut_address : (lutWord 0x80).wf = false ∧ (lutWord 0x7F).wf = true := by decide

theorem test_wf_refuses_four_bit_rom_address : (romWord 8).wf = false ∧ (romWord 7).wf = true := by decide

theorem test_wf_refuses_four_bit_selector : (seqWord 8).wf = false ∧ (seqWord 7).wf = true := by decide

theorem test_wf_refuses_zero_cps :
    Params.wf { cps := 0, hasPhaseO := true } = false ∧ Params.wf { cps := 1, hasPhaseO := true } = true := by decide

theorem test_decode_rejects_by_name :
    decode (lutWord 0x80) = .error .lutAddrTooWide ∧ decode (romWord 8) = .error .romAddrTooWide ∧
      decode (seqWord 8) = .error .seqSelTooWide := ⟨rfl, rfl, rfl⟩

/-! ### Decoding: every constructor from its word, written out from the formats of R60 and the codes of R63 -/

theorem test_decode_lut_SecondaryGo :
    [0b000_0000, 0b000_0001, 0b000_0010, 0b000_0011, 0b000_0100, 0b000_0101, 0b000_0110, 0b000_0111,
      0b000_1000, 0b000_1001, 0b000_1010, 0b000_1011, 0b000_1100, 0b000_1101, 0b000_1110, 0b000_1111].map (fun w => decoded (lutWord w)) =
    [some .lutSecondaryGo0, some .lutSecondaryGo1, some .lutSecondaryGo2, some .lutSecondaryGo3,
      some .lutSecondaryGo4, some .lutSecondaryGo5, some .lutSecondaryGo6, some .lutSecondaryGo7,
      some .lutSecondaryGo8, some .lutSecondaryGo9, some .lutSecondaryGoA, some .lutSecondaryGoB,
      some .lutSecondaryGoC, some .lutSecondaryGoD, some .lutSecondaryGoE, some .lutSecondaryGoF] := by decide

theorem test_decode_lut_SecondaryWait :
    [0b001_0000, 0b001_0001, 0b001_0010, 0b001_0011, 0b001_0100, 0b001_0101, 0b001_0110, 0b001_0111,
      0b001_1000, 0b001_1001, 0b001_1010, 0b001_1011, 0b001_1100, 0b001_1101, 0b001_1110, 0b001_1111].map (fun w => decoded (lutWord w)) =
    [some .lutSecondaryWait0, some .lutSecondaryWait1, some .lutSecondaryWait2, some .lutSecondaryWait3,
      some .lutSecondaryWait4, some .lutSecondaryWait5, some .lutSecondaryWait6, some .lutSecondaryWait7,
      some .lutSecondaryWait8, some .lutSecondaryWait9, some .lutSecondaryWaitA, some .lutSecondaryWaitB,
      some .lutSecondaryWaitC, some .lutSecondaryWaitD, some .lutSecondaryWaitE, some .lutSecondaryWaitF] := by decide

theorem test_decode_lut_PrimaryGo :
    [0b010_0000, 0b010_0001, 0b010_0010, 0b010_0011, 0b010_0100, 0b010_0101, 0b010_0110, 0b010_0111,
      0b010_1000, 0b010_1001, 0b010_1010, 0b010_1011, 0b010_1100, 0b010_1101, 0b010_1110, 0b010_1111].map (fun w => decoded (lutWord w)) =
    [some .lutPrimaryGo0, some .lutPrimaryGo1, some .lutPrimaryGo2, some .lutPrimaryGo3,
      some .lutPrimaryGo4, some .lutPrimaryGo5, some .lutPrimaryGo6, some .lutPrimaryGo7,
      some .lutPrimaryGo8, some .lutPrimaryGo9, some .lutPrimaryGoA, some .lutPrimaryGoB,
      some .lutPrimaryGoC, some .lutPrimaryGoD, some .lutPrimaryGoE, some .lutPrimaryGoF] := by decide

theorem test_decode_lut_PrimaryWait :
    [0b011_0000, 0b011_0001, 0b011_0010, 0b011_0011, 0b011_0100, 0b011_0101, 0b011_0110, 0b011_0111,
      0b011_1000, 0b011_1001, 0b011_1010, 0b011_1011, 0b011_1100, 0b011_1101, 0b011_1110, 0b011_1111].map (fun w => decoded (lutWord w)) =
    [some .lutPrimaryWait0, some .lutPrimaryWait1, some .lutPrimaryWait2, some .lutPrimaryWait3,
      some .lutPrimaryWait4, some .lutPrimaryWait5, some .lutPrimaryWait6, some .lutPrimaryWait7,
      some .lutPrimaryWait8, some .lutPrimaryWait9, some .lutPrimaryWaitA, some .lutPrimaryWaitB,
      some .lutPrimaryWaitC, some .lutPrimaryWaitD, some .lutPrimaryWaitE, some .lutPrimaryWaitF] := by decide

theorem test_decode_lut_SecondaryWalk :
    [0b100_0000, 0b100_0001, 0b100_0010, 0b100_0011, 0b100_0100, 0b100_0101, 0b100_0110, 0b100_0111,
      0b100_1000, 0b100_1001, 0b100_1010, 0b100_1011, 0b100_1100, 0b100_1101, 0b100_1110, 0b100_1111].map (fun w => decoded (lutWord w)) =
    [some .lutSecondaryWalk0, some .lutSecondaryWalk1, some .lutSecondaryWalk2, some .lutSecondaryWalk3,
      some .lutSecondaryWalk4, some .lutSecondaryWalk5, some .lutSecondaryWalk6, some .lutSecondaryWalk7,
      some .lutSecondaryWalk8, some .lutSecondaryWalk9, some .lutSecondaryWalkA, some .lutSecondaryWalkB,
      some .lutSecondaryWalkC, some .lutSecondaryWalkD, some .lutSecondaryWalkE, some .lutSecondaryWalkF] := by decide

theorem test_decode_lut_PrimaryWalk :
    [0b101_0000, 0b101_0001, 0b101_0010, 0b101_0011, 0b101_0100, 0b101_0101, 0b101_0110, 0b101_0111,
      0b101_1000, 0b101_1001, 0b101_1010, 0b101_1011, 0b101_1100, 0b101_1101, 0b101_1110, 0b101_1111].map (fun w => decoded (lutWord w)) =
    [some .lutPrimaryWalk0, some .lutPrimaryWalk1, some .lutPrimaryWalk2, some .lutPrimaryWalk3,
      some .lutPrimaryWalk4, some .lutPrimaryWalk5, some .lutPrimaryWalk6, some .lutPrimaryWalk7,
      some .lutPrimaryWalk8, some .lutPrimaryWalk9, some .lutPrimaryWalkA, some .lutPrimaryWalkB,
      some .lutPrimaryWalkC, some .lutPrimaryWalkD, some .lutPrimaryWalkE, some .lutPrimaryWalkF] := by decide

theorem test_decode_lut_SecondaryGoShort :
    [0b110_0000, 0b110_0001, 0b110_0010, 0b110_0011, 0b110_0100, 0b110_0101, 0b110_0110, 0b110_0111,
      0b110_1000, 0b110_1001, 0b110_1010, 0b110_1011, 0b110_1100, 0b110_1101, 0b110_1110, 0b110_1111].map (fun w => decoded (lutWord w)) =
    [some .lutSecondaryGoShort0, some .lutSecondaryGoShort1, some .lutSecondaryGoShort2, some .lutSecondaryGoShort3,
      some .lutSecondaryGoShort4, some .lutSecondaryGoShort5, some .lutSecondaryGoShort6, some .lutSecondaryGoShort7,
      some .lutSecondaryGoShort8, some .lutSecondaryGoShort9, some .lutSecondaryGoShortA, some .lutSecondaryGoShortB,
      some .lutSecondaryGoShortC, some .lutSecondaryGoShortD, some .lutSecondaryGoShortE, some .lutSecondaryGoShortF] := by decide

theorem test_decode_lut_illegal :
    [0b111_0000, 0b111_1010, 0b111_1111].map (fun w => decoded (lutWord w)) =
    [some (.lutIllegal 0x0), some (.lutIllegal 0xA), some (.lutIllegal 0xF)] := by decide

theorem test_decode_rom :
    [0b000, 0b001, 0b010, 0b011, 0b100, 0b101, 0b110, 0b111].map (fun w => decoded (romWord w)) =
    [some .romSecondaryGo, some .romSecondaryWait, some .romPrimaryGo, some .romPrimaryWait, some .romSecondaryWalk,
      some .romPrimaryWalk, some .romSecondaryGoShort, some .romIllegal] := by decide

theorem test_decode_seq :
    [0b000, 0b001, 0b010, 0b011, 0b100, 0b101, 0b110, 0b111].map (fun w => decoded (seqWord w)) =
    [some (.seqCount false), some (.seqCount true), some .seqSecond, some .seqAdvance, some (.seqReset false false),
      some (.seqReset false true), some (.seqReset true false), some (.seqReset true true)] := by decide

/-- P1 of 95_test_vectors.md: the LUT addresses that `[2,2,4,2]` reads. -/
theorem test_lut_addresses_of_p1 :
    [lutAddr 0b000 0b0010, lutAddr 0b001 0b0010, lutAddr 0b101 0b0100, lutAddr 0b110 0b0010] = [0x02, 0x12, 0x54, 0x62] := by
  decide

theorem test_table_word :
    decodeTableWord 8 0x24 = some .lutPrimaryGo4 ∧ decodeTableWord 8 0x7F = some (.lutIllegal 0xF) := by decide

/-! ### LUT entries: the corner and irregular entries of 95_test_vectors.md section 2.2 -/

theorem test_exec_lut_SecondaryGo :
    [Instr.lutSecondaryGo0, Instr.lutSecondaryGo8, Instr.lutSecondaryGo4, Instr.lutSecondaryGoD, Instr.lutSecondaryGoF].map
        (fun i => registers (exec i (cycleOf 3 0 1 2 false 0x0))) =
    [some (0, 7, 0), some (0, 7, 0), some (1, 2, 0), some (5, 4, 0), some (1, 2, 0)] := by decide

theorem test_exec_lut_SecondaryWait :
    [Instr.lutSecondaryWait0, Instr.lutSecondaryWaitE, Instr.lutSecondaryWaitF].map
        (fun i => registers (exec i (cycleOf 3 1 1 2 false 0x0))) =
    [some (2, 7, 0), some (2, 7, 0), some (5, 4, 0)] := by decide

theorem test_exec_lut_PrimaryGo :
    [Instr.lutPrimaryGo4, Instr.lutPrimaryGo5, Instr.lutPrimaryGoF].map
        (fun i => registers (exec i (cycleOf 3 2 1 2 false 0x0))) =
    [some (5, 4, 0), some (3, 2, 0), some (3, 2, 0)] := by decide

theorem test_exec_lut_PrimaryWait :
    [Instr.lutPrimaryWait0, Instr.lutPrimaryWaitA, Instr.lutPrimaryWaitB, Instr.lutPrimaryWaitE, Instr.lutPrimaryWaitF].map
        (fun i => registers (exec i (cycleOf 3 3 1 2 false 0x0))) =
    [some (0, 7, 0), some (4, 4, 0), some (0, 7, 0), some (4, 4, 0), some (5, 4, 0)] := by decide

theorem test_exec_lut_SecondaryWalk :
    [Instr.lutSecondaryWalk0, Instr.lutSecondaryWalkC, Instr.lutSecondaryWalkD, Instr.lutSecondaryWalkF].map
        (fun i => registers (exec i (cycleOf 3 4 1 2 false 0x0))) =
    [some (0, 7, 0), some (0, 7, 0), some (2, 7, 0), some (2, 7, 0)] := by decide

theorem test_exec_lut_PrimaryWalk :
    [Instr.lutPrimaryWalk0, Instr.lutPrimaryWalkF].map
        (fun i => registers (exec i (cycleOf 3 5 1 2 false 0x0))) =
    [some (6, 3, 0), some (6, 3, 0)] := by decide

theorem test_exec_lut_SecondaryGoShort :
    [Instr.lutSecondaryGoShort1, Instr.lutSecondaryGoShort9, Instr.lutSecondaryGoShortA, Instr.lutSecondaryGoShortF].map
        (fun i => registers (exec i (cycleOf 3 6 1 2 false 0x0))) =
    [some (1, 2, 0), some (0, 7, 0), some (1, 2, 0), some (1, 2, 0)] := by decide

theorem test_exec_lut_illegal :
    faultOf (exec (.lutIllegal 0x3) (cycleOf 3 7 0 5 false 0x3)) =
      some (.illegalPhase { phase := 7, secLeft := 0, pre := 5, cycle := 0 }) := by decide

/-! ### ROM words: the packed words of R62 and the ports of 95_test_vectors.md section 2.3 -/

theorem test_rom_words :
    [rom .secondaryGo, rom .secondaryWait, rom .primaryGo, rom .primaryWait, rom .secondaryWalk, rom .primaryWalk,
      rom .secondaryGoShort].map RomWord.pack =
    [0x71002, 0x21004, 0x70408, 0x20808, 0x41038, 0x41012, 0x31002] := by decide

theorem test_exec_rom :
    [Instr.romSecondaryGo, .romSecondaryWait, .romPrimaryGo, .romPrimaryWait, .romSecondaryWalk, .romPrimaryWalk,
      .romSecondaryGoShort].map (fun i => lamps (exec i (cycleOf 3 7 0 5 false 0x0))) =
    [some (0x10, 0x02, false, false), some (0x10, 0x04, false, false), some (0x04, 0x08, false, false),
      some (0x08, 0x08, false, false), some (0x10, 0x38, true, true), some (0x10, 0x12, true, false),
      some (0x10, 0x02, false, false)] := by decide

theorem test_exec_rom_illegal :
    (faultOf (exec .romIllegal (cycleOf 3 7 3 0 false 0x0))).map Fault.code = some 1 := by decide

/-! ### Sequencer operations: 95_test_vectors.md section 2.4, one step each -/

theorem test_step_count :
    registers (step (cycleOf 3 0 7 0 false 0x5)) = some (0, 7, 1) ∧
      registers (step (cycleOf 3 2 1 1 false 0x4)) = some (2, 1, 2) := by decide

theorem test_step_second :
    registers (step (cycleOf 3 0 7 2 false 0x5)) = some (0, 6, 0) ∧
      registers (step (cycleOf 3 2 5 2 false 0x4)) = some (2, 4, 0) ∧
      registers (step (cycleOf 1 0 2 0 false 0x0)) = some (0, 1, 0) ∧
      registers (step (cycleOf 4 1 3 3 false 0x0)) = some (1, 2, 0) := by decide

theorem test_step_advance :
    registers (step (cycleOf 3 2 1 2 false 0x4)) = some (5, 4, 0) ∧
      registers (step (cycleOf 1 0 1 0 false 0x8)) = some (0, 7, 0) ∧
      registers (step (cycleOf 1 6 1 0 false 0x9)) = some (0, 7, 0) ∧
      registers (step (cycleOf 1 3 1 0 false 0x2)) = some (4, 4, 0) ∧
      registers (step (cycleOf 1 5 1 0 false 0x7)) = some (6, 3, 0) ∧
      registers (step (cycleOf 1 4 1 0 false 0xF)) = some (2, 7, 0) := by decide

theorem test_step_reset :
    registers (step (cycleOf 2 3 1 1 true 0x2)) = some (0, 7, 0) ∧
      registers (step (cycleOf 3 7 0 5 true 0x0)) = some (0, 7, 0) := by decide

/-- 95_test_vectors.md program P4, cycles 13 and 27: the lamps change at the ADVANCE edge and at the RESET edge. -/
theorem test_step_lamps :
    lamps (step (cycleOf 2 0 1 1 false 0x1)) = some (0x10, 0x12, true, false) ∧
      lamps (step (cycleIn 2 .primaryGo 3 1 true 0x1)) = some (0x10, 0x02, false, false) := by decide

/-! ### Faults: 95_test_vectors.md section 2.5 -/

theorem test_step_faults :
    (faultOf (step (cycleOf 3 7 0 5 false 0x0))) =
        some (.illegalPhase { phase := 7, secLeft := 0, pre := 5, cycle := 0 }) ∧
      (faultOf (step (cycleOf 3 1 0 0 false 0x0))).map Fault.code = some 2 ∧
      (faultOf (step (cycleOf 3 1 3 3 false 0x0))).map Fault.code = some 3 := by decide

/-! ### The first step after reset of a placed table word -/

theorem test_placed_word_runs :
    registers (step (State.reset.withFetchWord 8 0x24)) = some (5, 4, 0) ∧
      registers (exec .lutPrimaryGo4 (State.reset.withFetchWord 8 0x24)) = some (5, 4, 0) := by decide

theorem test_placed_illegal_word_faults :
    (faultOf (step (State.reset.withFetchWord 8 0x70))).map Fault.code = some 1 := by decide

/-! ### Witnesses: for each statement with hypotheses, a state and operands that meet all of them together -/

/-- A COUNT edge in the middle of PrimaryGo. -/
def countCycle : State := cycleIn 3 .primaryGo 5 0 false 0x4

/-- A SECOND edge, the last cycle of the last second but one. -/
def secondCycle : State := cycleIn 3 .primaryGo 2 2 false 0x4

/-- The ADVANCE edge of PrimaryGo under condition 4. -/
def advanceCycle : State := cycleIn 3 .primaryGo 1 2 false 0x4

/-- SecondaryWait just entered, with `CPS` = 1 and the inputs of one visit and more. -/
def entryCycle : State :=
  { cycleIn 1 .secondaryWait 2 0 false 0x0 with
    stimulus := [{ rst := false, cond := 0x1 }, { rst := false, cond := 0x2 }, { rst := false, cond := 0x3 }] }

theorem test_witness_EncodeOfDecodeIsIdentity : decode (lutWord 0x7F) = .ok (.lutIllegal 0xF) := rfl

theorem test_witness_DecoderMeansEveryWordOfItsWidth :
    (lutWord 0x7F).wf = true ∧ ((lutWord 0x80).wf = false ∧ (lutWord 0x80).format = .lutAddr) ∧
      ((romWord 8).wf = false ∧ (romWord 8).format = .romAddr) ∧ ((seqWord 8).wf = false ∧ (seqWord 8).format = .seqSel) := by
  decide

theorem test_witness_phase_seven_without_rst :
    (cycleOf 3 7 0 5 false 0x0).phase = 7 ∧ (cycleOf 3 7 0 5 false 0x0).input.rst = false := by decide

theorem test_witness_LutRowSecondaryGo : (cycleIn 3 .secondaryGo 1 2 false 0xF).phase = 0 := by decide

theorem test_witness_LutRowSecondaryWait : (cycleIn 3 .secondaryWait 1 2 false 0xF).phase = 1 := by decide

theorem test_witness_LutRowPrimaryGo : (cycleIn 3 .primaryGo 1 2 false 0xF).phase = 2 := by decide

theorem test_witness_LutRowPrimaryWait : (cycleIn 3 .primaryWait 1 2 false 0xF).phase = 3 := by decide

theorem test_witness_LutRowSecondaryWalk : (cycleIn 3 .secondaryWalk 1 2 false 0xF).phase = 4 := by decide

theorem test_witness_LutRowPrimaryWalk : (cycleIn 3 .primaryWalk 1 2 false 0xF).phase = 5 := by decide

theorem test_witness_LutRowSecondaryGoShort : (cycleIn 3 .secondaryGoShort 1 2 false 0xF).phase = 6 := by decide

/-- Serves every statement whose hypothesis is `step s = .next t`: one step of each kind. -/
theorem test_witness_step_answers_next :
    (∃ t, step countCycle = .next t ∧ t.phase = countCycle.phase) ∧ (∃ t, step secondCycle = .next t) ∧
      (∃ t, step advanceCycle = .next t) ∧ (∃ t, step (cycleOf 3 7 0 5 true 0x0) = .next t) :=
  ⟨⟨_, rfl, rfl⟩, ⟨_, rfl⟩, ⟨_, rfl⟩, ⟨_, rfl⟩⟩

/-- Each row of the output table is the phase of some next state. -/
theorem test_witness_OutputSummaryPerPhase :
    [cycleOf 1 0 1 0 false 0x0, cycleOf 1 0 1 0 false 0x2, cycleOf 1 1 1 0 false 0x0, cycleOf 1 2 1 0 false 0x0,
      cycleOf 1 3 1 0 false 0x2, cycleOf 1 0 1 0 false 0x1, cycleOf 1 5 1 0 false 0x0].map
        (fun s => (registers (step s)).map Prod.fst) =
    [some 0, some 1, some 2, some 3, some 4, some 5, some 6] := by decide

theorem test_witness_GreenToRedWithoutYellow :
    (advanceCycle.Inv ∧ advanceCycle.AtAdvance ∧ advanceCycle.input.rst = false ∧ advanceCycle.phase = 2 ∧
      advanceCycle.input.cond = 0x4) ∧
    ((cycleIn 1 .secondaryWait 1 0 false 0xF).Inv ∧ (cycleIn 1 .secondaryWait 1 0 false 0xF).AtAdvance ∧
      (cycleIn 1 .secondaryWait 1 0 false 0xF).input.rst = false ∧ (cycleIn 1 .secondaryWait 1 0 false 0xF).phase = 1 ∧
      (cycleIn 1 .secondaryWait 1 0 false 0xF).input.cond ∈ [0x2, 0x3, 0x6, 0x7, 0xA, 0xB, 0xF]) := by decide

theorem test_witness_OutputsChangeOnlyWithThePhase :
    countCycle.Consistent ∧ secondCycle.Consistent ∧ countCycle.params = secondCycle.params ∧
      countCycle.phase = secondCycle.phase ∧ countCycle.Consistent ∧
      ∃ t, step countCycle = .next t ∧ t.phase = countCycle.phase :=
  ⟨by decide, by decide, by decide, by decide, by decide, _, rfl, rfl⟩

theorem test_witness_StrobesFollowTheCounters :
    (cycleOf 1 0 7 0 false 0x0).Legal ∧ (cycleOf 1 0 7 0 false 0x0).params.cps = 1 := by decide

theorem test_witness_ResetOperation :
    (cycleOf 3 7 0 5 true 0x0).input.rst = true ∧ ∀ j < 0 + 1, ((cycleOf 3 7 0 5 true 0x0).inputAt j).rst = true := by decide

theorem test_witness_CountOperation :
    (countCycle.Inv ∧ countCycle.input.rst = false ∧ countCycle.pre + 1 < countCycle.params.cps) ∧
    ((cycleIn 3 .primaryGo 5 1 false 0x4).Inv ∧ (cycleIn 3 .primaryGo 5 1 false 0x4).pre + 1 < 3) ∧
    ((cycleOf 1 0 7 0 false 0x0).Legal ∧ (cycleOf 1 0 7 0 false 0x0).input.rst = false ∧
      (cycleOf 1 0 7 0 false 0x0).params.cps = 1) := by decide

theorem test_witness_SecondOperation :
    (2 ≤ secondCycle.secLeft.toNat ∧ 2 ≤ (cycleOf 3 0 7 2 false 0x0).secLeft.toNat) ∧
    (secondCycle.Inv ∧ secondCycle.input.rst = false ∧ secondCycle.pre = secondCycle.params.cps - 1 ∧
      secondCycle.secLeft ≠ 1) ∧
    ((cycleIn 1 .primaryGo 2 0 false 0x0).Legal ∧ (cycleIn 1 .primaryGo 2 0 false 0x0).input.rst = false ∧
      (cycleIn 1 .primaryGo 2 0 false 0x0).params.cps = 1 ∧ (cycleIn 1 .primaryGo 2 0 false 0x0).secLeft ≠ 1) := by decide

theorem test_witness_AdvanceOperation :
    advanceCycle.Legal ∧ advanceCycle.input.rst = false ∧ advanceCycle.pre = advanceCycle.params.cps - 1 ∧
      advanceCycle.secLeft = 1 ∧ advanceCycle.phase = Phase.primaryGo.code := by decide

theorem test_witness_OperationsOffTheirConditions : (cycleOf 3 7 1 2 false 0x0).phase = 7 := by decide

theorem test_witness_StepRunsTheSelectedOperation :
    ((cycleOf 3 7 0 5 true 0x0).input.rst = true ∧ decoded (cycleOf 3 7 0 5 true 0x0).seqSelWord =
      some (.seqReset false false)) ∧
    (advanceCycle.Legal ∧ decoded advanceCycle.seqSelWord = some .seqAdvance) ∧
    (secondCycle.Legal ∧ decoded secondCycle.seqSelWord = some .seqSecond) ∧
    (countCycle.Legal ∧ decoded countCycle.seqSelWord = some (.seqCount false)) := by decide

theorem test_witness_AdvanceEdgeRunsTheAddressedLutEntry :
    advanceCycle.input.rst = false ∧ advanceCycle.Legal ∧ advanceCycle.AtAdvance ∧
      decode advanceCycle.lutAddrWord = .ok .lutPrimaryGo4 := ⟨by decide, by decide, by decide, rfl⟩

theorem test_witness_PlacedTableWordRunsNext :
    decodeTableWord 8 0x00 = some .lutSecondaryGo0 ∧ decodeTableWord 8 0x7F = some (.lutIllegal 0xF) := by decide

theorem test_witness_StepOutcomeByPriority :
    (cycleOf 3 7 0 5 true 0x0).input.rst = true ∧
    ((cycleOf 3 7 0 5 false 0x0).input.rst = false ∧ (cycleOf 3 7 0 5 false 0x0).phase = 7) ∧
    ((cycleOf 3 6 0 5 false 0x0).input.rst = false ∧ (cycleOf 3 6 0 5 false 0x0).phase ≠ 7 ∧
      (cycleOf 3 6 0 5 false 0x0).secLeft = 0) ∧
    ((cycleOf 3 6 1 3 false 0x0).input.rst = false ∧ (cycleOf 3 6 1 3 false 0x0).phase ≠ 7 ∧
      (cycleOf 3 6 1 3 false 0x0).secLeft ≠ 0 ∧ (cycleOf 3 6 1 3 false 0x0).params.cps ≤ (cycleOf 3 6 1 3 false 0x0).pre) ∧
    ((cycleOf 3 6 1 2 false 0x0).input.rst = false ∧ (cycleOf 3 6 1 2 false 0x0).phase ≠ 7 ∧
      (cycleOf 3 6 1 2 false 0x0).secLeft ≠ 0 ∧ (cycleOf 3 6 1 2 false 0x0).pre < (cycleOf 3 6 1 2 false 0x0).params.cps) := by
  decide

theorem test_witness_FaultEndsTheRun :
    1 ≤ (cycleOf 3 1 0 0 false 0x0).params.cps ∧ run 1 (cycleOf 3 1 0 0 false 0x0) =
      .fault (.illegalDwellCount { phase := 1, secLeft := 0, pre := 0, cycle := 0 }) := ⟨by decide, rfl⟩

theorem test_witness_PhaseChangesOnlyAtResetAndAdvance :
    ((∃ t, step (cycleOf 3 7 0 5 true 0x0) = .next t) ∧ (cycleOf 3 7 0 5 true 0x0).input.rst = true) ∧
    ((∃ t, step advanceCycle = .next t) ∧ advanceCycle.input.rst = false ∧ advanceCycle.AtAdvance) ∧
    ((∃ t, step secondCycle = .next t) ∧ secondCycle.input.rst = false ∧ ¬secondCycle.AtAdvance) :=
  ⟨⟨⟨_, rfl⟩, by decide⟩, ⟨⟨_, rfl⟩, by decide⟩, ⟨_, rfl⟩, by decide⟩

theorem test_witness_CondIsReadOnlyByAdvance : true = true ∨ ¬advanceCycle.AtAdvance := .inl rfl

theorem test_witness_CondIsReadOnlyByAdvance_outside : false = true ∨ ¬secondCycle.AtAdvance := .inr (by decide)

/-- A COUNT edge under two conditions: no sample is taken. -/
theorem test_witness_RunDependsOnlyOnTheSamples :
    (∀ j < 1, (countCycle.inputAt j).rst =
      (State.inputAt { countCycle with stimulus := [{ rst := false, cond := 0x9 }] } j).rst) ∧
    (∀ j < 1, ∀ u, run j countCycle = .next u → u.AtAdvance → (countCycle.inputAt j).rst = false →
      (countCycle.inputAt j).cond =
        (State.inputAt { countCycle with stimulus := [{ rst := false, cond := 0x9 }] } j).cond) ∧
    ∃ t, run 1 countCycle = .next t := by
  refine ⟨by decide, ?_, _, rfl⟩
  intro j hj u hu ha
  obtain rfl : j = 0 := by omega
  cases hu
  exact absurd ha (by decide)

/-- The last cycle of a visit with `rst` = 1, under two conditions: the RESET takes no sample. -/
theorem test_witness_RunDependsOnlyOnTheSamples_reset :
    let s : State := cycleIn 3 .primaryGo 1 2 true 0x4
    s.AtAdvance ∧ (∀ j < 1, (s.inputAt j).rst = (State.inputAt { s with stimulus := [{ rst := true, cond := 0x9 }] } j).rst) ∧
    (∀ j < 1, ∀ u, run j s = .next u → u.AtAdvance → (s.inputAt j).rst = false →
      (s.inputAt j).cond = (State.inputAt { s with stimulus := [{ rst := true, cond := 0x9 }] } j).cond) ∧
    ∃ t, run 1 s = .next t := by
  refine ⟨by decide, by decide, ?_, _, rfl⟩
  intro j hj u _ _ hr
  obtain rfl : j = 0 := by omega
  exact absurd hr (by decide)

theorem test_witness_DwellCountsDownToTheAdvance :
    (advanceCycle.Legal ∧ advanceCycle.input.rst = false ∧ advanceCycle.AtAdvance ∧ ∃ t, step advanceCycle = .next t) ∧
    (secondCycle.Legal ∧ secondCycle.input.rst = false ∧ ¬secondCycle.AtAdvance ∧ ∃ t, step secondCycle = .next t) :=
  ⟨⟨by decide, by decide, by decide, _, rfl⟩, by decide, by decide, by decide, _, rfl⟩

/-- Serves VisitLastsDwellTimesCps and DwellLevelRefinesTheCycleLevel (its visit 0). -/
theorem test_witness_visit_entry :
    entryCycle.phase = Phase.secondaryWait.code ∧ entryCycle.secLeft = (rom .secondaryWait).dwell ∧ entryCycle.pre = 0 ∧
      entryCycle.romData = rom .secondaryWait ∧ 1 ≤ entryCycle.params.cps ∧
      (∀ j < visitCycles .secondaryWait entryCycle.params.cps, (entryCycle.inputAt j).rst = false) ∧
      (∀ j < (visit entryCycle .secondaryWait (0 + 1)).2, (entryCycle.inputAt j).rst = false) ∧
      1 < visitCycles .secondaryWait entryCycle.params.cps := by decide

/-- SecondaryWait just entered, with `CPS` = 3 and the inputs of its visit. -/
def slowEntryCycle : State :=
  { cycleIn 3 .secondaryWait 2 0 false 0x0 with stimulus := List.replicate 6 { rst := false, cond := 0x0 } }

theorem test_witness_VisitLastsDwellTimesCps_cps_three :
    slowEntryCycle.phase = Phase.secondaryWait.code ∧ slowEntryCycle.secLeft = (rom .secondaryWait).dwell ∧
      slowEntryCycle.pre = 0 ∧ slowEntryCycle.romData = rom .secondaryWait ∧ 1 ≤ slowEntryCycle.params.cps ∧
      (∀ j < visitCycles .secondaryWait slowEntryCycle.params.cps, (slowEntryCycle.inputAt j).rst = false) ∧
      5 < visitCycles .secondaryWait slowEntryCycle.params.cps := by decide

/-- Visit 1 of the dwell level: SecondaryWait, then PrimaryWalk by condition 2, up to the ADVANCE that leaves it. -/
theorem test_witness_DwellLevelRefinesTheCycleLevel_second_visit :
    let s : State := { cycleIn 1 .secondaryWait 2 0 false 0x0 with
      stimulus := List.replicate 6 { rst := false, cond := 0x2 } }
    s.phase = Phase.secondaryWait.code ∧ s.secLeft = (rom .secondaryWait).dwell ∧ s.pre = 0 ∧
      s.romData = rom .secondaryWait ∧ 1 ≤ s.params.cps ∧
      visit s .secondaryWait 1 = (.primaryWalk, 2) ∧ (visit s .secondaryWait (1 + 1)).2 = 6 ∧
      (∀ j < (visit s .secondaryWait (1 + 1)).2, (s.inputAt j).rst = false) := by decide

theorem test_witness_DwellProgramSamplesItsEntries :
    let s : State := { entryCycle with stimulus := expand 1 .secondaryWait [0x0] ++ [] }
    s.phase = Phase.secondaryWait.code ∧ s.secLeft = (rom .secondaryWait).dwell ∧ s.pre = 0 ∧
      s.romData = rom .secondaryWait ∧ 1 ≤ s.params.cps ∧
      s.stimulus = expand s.params.cps .secondaryWait [0x0] ++ [] := by decide

/-- Serves the invariant statements: a state that satisfies the invariant and steps. -/
theorem test_witness_invariant :
    (advanceCycle.Inv ∧ 1 ≤ advanceCycle.params.cps ∧ ∃ t, step advanceCycle = .next t) ∧
    (1 ≤ (cycleOf 3 7 0 5 true 0x0).params.cps ∧ ∃ t, step (cycleOf 3 7 0 5 true 0x0) = .next t) :=
  ⟨⟨by decide, by decide, _, rfl⟩, by decide, _, rfl⟩

/-- 5 fits the 3-bit prescaler of `CPS` = 5, which is no power of two, and is no legal value of it. -/
theorem test_witness_PrescalerWidthIsCeilLog :
    1 ≤ 5 ∧ 5 < 2 ^ preWidth 5 ∧ (5 : Nat) ≤ 5 ∧ 2 < (cycleOf 3 0 7 0 false 0x0).params.cps := by decide

theorem test_witness_ResetForgetsEveryRegister : (cycleOf 3 7 0 5 true 0x0).input.rst = true := by decide

end Sys2Proof.Tests
end

section
/-!
PROOFS of 10_state.md: what the lamp ports carry in a cycle that a step leads to.
-/

namespace Sys2Proof.Machine

/-! ### The ports after a step -/

/-- R120, R121: every step, of whichever kind, leads to a cycle of one of the seven phases in which that phase's ROM word
has been read. RESET and ADVANCE read it on entering the phase; SECOND and COUNT read it again in the phase they keep. -/
theorem step_phase_romData {s t : State} (h : step s = .next t) :
    ∃ p : Phase, t.phase = p.code ∧ t.romData = rom p := by
  obtain ⟨_, rfl⟩ | ⟨_, _, p, hp, hkind⟩ := step_cases h
  · exact ⟨.secondaryGo, rfl, rfl⟩
  · obtain ⟨_, _, rfl⟩ | ⟨_, _, rfl⟩ | ⟨_, rfl⟩ := hkind
    · exact ⟨lut p s.input.cond, rfl, rfl⟩
    · exact ⟨p, hp, rfl⟩
    · exact ⟨p, hp, rfl⟩

/-! ### The reserved bits of the lamp patterns -/

/-- R31: no phase's pattern for road A sets a reserved bit. -/
theorem rom_chanA_reserved (p : Phase) : (rom p).chanA.extractLsb' 0 2 = 0 ∧ (rom p).chanA.extractLsb' 5 3 = 0 := by
  cases p <;> decide

/-- R31: no phase's pattern for road B sets a reserved bit. -/
theorem rom_chanB_reserved (p : Phase) : (rom p).chanB.extractLsb' 0 1 = 0 ∧ (rom p).chanB.extractLsb' 6 2 = 0 := by
  cases p <;> decide

/-- Settles O30: the ports carry a ROM word after every step, and no ROM word sets a reserved bit. -/
theorem reservedOutputBitsAreZero : Obligations.ReservedOutputBitsAreZero := by
  intro s t h
  obtain ⟨p, _, hrom⟩ := step_phase_romData h
  have hA : t.roadA = (rom p).chanA := congrArg RomWord.chanA hrom
  have hB : t.roadB = (rom p).chanB := congrArg RomWord.chanB hrom
  obtain ⟨hA0, hA5⟩ := rom_chanA_reserved p
  obtain ⟨hB0, hB6⟩ := rom_chanB_reserved p
  rw [hA, hB]
  exact ⟨hA0, hA5, hB0, hB6⟩

end Sys2Proof.Machine
end

section
/-!
PROOFS of 30_encoding.md: the LUT address, the ROM word, the phase codes and the sequencer's selector.
-/

namespace Sys2Proof.Machine

/-! ### The LUT address -/

/-- R61: the phase code stands above the four bits of the condition, so the address counts rows of 16. -/
theorem lutAddr_toNat (p : PhaseCode) (c : Cond) : (lutAddr p c).toNat = 16 * p.toNat + c.toNat := by
  calc (lutAddr p c).toNat
    _ = p.toNat <<< 4 ||| c.toNat := BitVec.toNat_append p c
    _ = p.toNat <<< 4 + c.toNat := (Nat.shiftLeft_add_eq_or_of_lt c.isLt _).symm
    _ = 16 * p.toNat + c.toNat := by rw [Nat.shiftLeft_eq]; omega

@[simp] theorem lutAddr_phase (p : PhaseCode) (c : Cond) : (lutAddr p c).extractLsb' 4 3 = p :=
  BitVec.extractLsb'_append_eq_left

@[simp] theorem lutAddr_cond (p : PhaseCode) (c : Cond) : (lutAddr p c).extractLsb' 0 4 = c :=
  BitVec.extractLsb'_append_eq_right

/-- Settles O4. -/
theorem lutAddressJoinsPhaseAndCond : Obligations.LutAddressJoinsPhaseAndCond :=
  fun p c => ⟨rfl, lutAddr_toNat p c, lutAddr_phase p c, lutAddr_cond p c⟩

/-! ### The ROM word -/

/-- R62: each field of a packed word is read back from its own bits. -/
@[simp] theorem unpack_pack (w : RomWord) : RomWord.unpack w.pack = w := by
  have hdwell : w.pack.extractLsb' 16 3 = w.dwell :=
    (BitVec.extractLsb'_append_eq_of_le (by decide)).trans BitVec.extractLsb'_append_eq_left
  have hchanA : w.pack.extractLsb' 8 8 = w.chanA :=
    (BitVec.extractLsb'_append_eq_of_le (by decide)).trans BitVec.extractLsb'_append_eq_right
  have hchanB : w.pack.extractLsb' 0 8 = w.chanB := BitVec.extractLsb'_append_eq_right
  simp only [RomWord.unpack, hdwell, hchanA, hchanB]

/-- R62: the three fields are adjacent and cover the 19 bits. -/
@[simp] theorem pack_unpack (w : BitVec 19) : (RomWord.unpack w).pack = w := by
  calc w.extractLsb' 16 3 ++ w.extractLsb' 8 8 ++ w.extractLsb' 0 8
    _ = w.extractLsb' 8 11 ++ w.extractLsb' 0 8 :=
      congrArg (· ++ w.extractLsb' 0 8) (BitVec.extractLsb'_append_extractLsb'_eq_extractLsb' rfl)
    _ = w.extractLsb' 0 19 := BitVec.extractLsb'_append_extractLsb'_eq_extractLsb' rfl
    _ = w := BitVec.extractLsb'_eq_self

/-- Settles O5: the layout for every word, then the seven words of R62's table as they are stored. -/
theorem romWordLayoutAndContents : Obligations.RomWordLayoutAndContents :=
  ⟨fun w => ⟨rfl, unpack_pack w⟩, fun w => ⟨rfl, rfl, rfl, pack_unpack w⟩, rfl, rfl, rfl, rfl, rfl, rfl, rfl⟩

/-! ### The phase codes -/

theorem ofCode_eq_some_iff (c : PhaseCode) (p : Phase) : Phase.ofCode c = some p ↔ c = p.code := by
  constructor
  · intro h
    obtain ⟨q, hc, hq⟩ | ⟨_, hnone⟩ := ofCode_cases c
    · obtain rfl : q = p := Option.some.inj (hq.symm.trans h)
      exact hc
    · exact absurd (hnone.symm.trans h) nofun
  · rintro rfl
    exact ofCode_code p

theorem ofCode_eq_none_iff (c : PhaseCode) : Phase.ofCode c = none ↔ c = 7 := by
  obtain ⟨p, rfl, hp⟩ | ⟨hc, hnone⟩ := ofCode_cases c
  · exact iff_of_false (by simp [hp]) (code_ne_seven p)
  · exact iff_of_true hnone hc

/-- Settles O6: the codes as tabled, and `Phase.ofCode` as the inverse of `Phase.code` on them. -/
theorem phaseCodesAreIndices : Obligations.PhaseCodesAreIndices :=
  ⟨rfl, rfl, rfl, rfl, rfl, rfl, rfl, ofCode_eq_some_iff, ofCode_eq_none_iff⟩

/-! ### The selector -/

/-- R65: a selector matches exactly one row of the operation table, and the decoder names that row's operation. The bits
outside the row's mask become the operation's operands. -/
theorem decodeSeqSel_cases : ∀ sel : BitVec 3,
    (sel &&& 0b100 = 0b100 ∧ sel &&& 0b111 ≠ 0b011 ∧ sel &&& 0b111 ≠ 0b010 ∧ sel &&& 0b110 ≠ 0b000 ∧
      decodeSeqSel sel = .seqReset (sel.getLsbD 1) (sel.getLsbD 0)) ∨
    (sel &&& 0b100 ≠ 0b100 ∧ sel &&& 0b111 = 0b011 ∧ sel &&& 0b111 ≠ 0b010 ∧ sel &&& 0b110 ≠ 0b000 ∧
      decodeSeqSel sel = .seqAdvance) ∨
    (sel &&& 0b100 ≠ 0b100 ∧ sel &&& 0b111 ≠ 0b011 ∧ sel &&& 0b111 = 0b010 ∧ sel &&& 0b110 ≠ 0b000 ∧
      decodeSeqSel sel = .seqSecond) ∨
    (sel &&& 0b100 ≠ 0b100 ∧ sel &&& 0b111 ≠ 0b011 ∧ sel &&& 0b111 ≠ 0b010 ∧ sel &&& 0b110 = 0b000 ∧
      decodeSeqSel sel = .seqCount (sel.getLsbD 0)) := by
  decide

/-- Settles O7: in the row that the selector matches, the decoder names its operation and the other three matches fail. -/
theorem selectorPartitionsTheOperations : Obligations.SelectorPartitionsTheOperations := by
  refine ⟨fun _ => rfl, fun sel => ?_⟩
  obtain ⟨hR, hA, hS, hC, hd⟩ | ⟨hR, hA, hS, hC, hd⟩ | ⟨hR, hA, hS, hC, hd⟩ | ⟨hR, hA, hS, hC, hd⟩ :=
    decodeSeqSel_cases sel
  · exact ⟨iff_of_true ⟨_, _, hd⟩ hR, iff_of_false (by simp [hd]) hA, iff_of_false (by simp [hd]) hS,
      iff_of_false (by simp [hd]) hC, .inl ⟨_, _, hd⟩⟩
  · exact ⟨iff_of_false (by simp [hd]) hR, iff_of_true hd hA, iff_of_false (by simp [hd]) hS,
      iff_of_false (by simp [hd]) hC, .inr (.inl hd)⟩
  · exact ⟨iff_of_false (by simp [hd]) hR, iff_of_false (by simp [hd]) hA, iff_of_true hd hS,
      iff_of_false (by simp [hd]) hC, .inr (.inr (.inl hd))⟩
  · exact ⟨iff_of_false (by simp [hd]) hR, iff_of_false (by simp [hd]) hA, iff_of_false (by simp [hd]) hS,
      iff_of_true ⟨_, hd⟩ hC, .inr (.inr (.inr ⟨_, hd⟩))⟩

end Sys2Proof.Machine
end

section
/-!
PROOFS of 40_phase_rom.md: the safety properties of the ROM words, and of every cycle that a step leads to.

Each property is proved of the seven words. It carries over to a cycle because the ports carry the word of the phase in
force after every step (`step_ports`).
-/

namespace Sys2Proof.Machine

/-! ### The ports show the word of the phase in force -/

/-- R120, R121: after every step the two lamp ports carry the patterns of the phase in force. -/
theorem step_ports {s t : State} (h : step s = .next t) :
    ∃ p : Phase, t.phase = p.code ∧ t.roadA = (rom p).chanA ∧ t.roadB = (rom p).chanB := by
  obtain ⟨p, hphase, hrom⟩ := step_phase_romData h
  exact ⟨p, hphase, congrArg RomWord.chanA hrom, congrArg RomWord.chanB hrom⟩

/-- R63: two phases with the same code are the same phase. -/
theorem code_eq_code_iff {p q : Phase} : p.code = q.code ↔ p = q :=
  ⟨code_injective, congrArg Phase.code⟩

/-! ### Green -/

/-- R88: primary green is in PrimaryGo only. -/
theorem rom_primaryGreen_iff (p : Phase) : (rom p).chanA.getLsbD 2 = true ↔ p = .primaryGo := by
  cases p <;> decide

/-- R88: the three phases with secondary green. -/
theorem rom_secondaryGreen_iff (p : Phase) :
    (rom p).chanB.getLsbD 1 = true ↔ p ∈ [Phase.secondaryGo, .primaryWalk, .secondaryGoShort] := by
  cases p <;> decide

/-- R88: PrimaryGo is not among the phases with secondary green. -/
theorem rom_not_both_green (p : Phase) : ¬((rom p).chanA.getLsbD 2 = true ∧ (rom p).chanB.getLsbD 1 = true) := by
  rw [rom_primaryGreen_iff, rom_secondaryGreen_iff]
  rintro ⟨rfl, hmem⟩
  exact absurd hmem (by decide)

/-- R88: secondary green goes with a road A that shows red and nothing else. -/
theorem rom_chanA_red_of_secondaryGreen {p : Phase} (h : p ∈ [Phase.secondaryGo, .primaryWalk, .secondaryGoShort]) :
    (rom p).chanA = 0x10 := by
  simp only [List.mem_cons, List.not_mem_nil, or_false] at h
  obtain rfl | rfl | rfl := h <;> rfl

/-- Settles O11: both greens would need one phase to be PrimaryGo and a phase with secondary green. -/
theorem neverGreenOnBothRoads : Obligations.NeverGreenOnBothRoads := by
  refine ⟨rom_not_both_green, rom_primaryGreen_iff, rfl, rom_secondaryGreen_iff,
    fun _ => rom_chanA_red_of_secondaryGreen, fun s t h => ?_⟩
  obtain ⟨p, _, hA, hB⟩ := step_ports h
  have hnot := rom_not_both_green p
  rw [← hA, ← hB] at hnot
  exact Bool.eq_false_iff.mpr fun hboth => hnot (Bool.and_eq_true_iff.mp hboth)

/-! ### One lamp for each road -/

/-- R89: `chanA[4:2]` of every word is one-hot. -/
theorem rom_one_lamp_roadA (p : Phase) :
    [(rom p).chanA.getLsbD 4, (rom p).chanA.getLsbD 3, (rom p).chanA.getLsbD 2].count true = 1 := by
  cases p <;> decide

/-- R89: `chanB[3:1]` of every word is one-hot. -/
theorem rom_one_lamp_roadB (p : Phase) :
    [(rom p).chanB.getLsbD 3, (rom p).chanB.getLsbD 2, (rom p).chanB.getLsbD 1].count true = 1 := by
  cases p <;> decide

/-- Settles O12. `State.primaryRed` to `State.primaryGreen` are bits 4 to 2 of road A's port, and
`State.secondaryRed` to `State.secondaryGreen` bits 3 to 1 of road B's; a count does not see their order. -/
theorem exactlyOneLampPerRoad : Obligations.ExactlyOneLampPerRoad := by
  refine ⟨fun p => ⟨rom_one_lamp_roadA p, rom_one_lamp_roadB p⟩, fun s t h => ?_⟩
  obtain ⟨p, _, hA, hB⟩ := step_ports h
  have hcountA := rom_one_lamp_roadA p
  have hcountB := rom_one_lamp_roadB p
  rw [← hA] at hcountA
  rw [← hB] at hcountB
  exact ⟨((List.reverse_perm _).count_eq true).trans hcountA, ((List.reverse_perm _).count_eq true).trans hcountB⟩

/-! ### The walk lamps -/

/-- R90: primary walk is lit in the two walk phases. -/
theorem rom_primaryWalkLamp_iff (p : Phase) :
    (rom p).chanB.getLsbD 4 = true ↔ p = .secondaryWalk ∨ p = .primaryWalk := by
  cases p <;> decide

/-- R90: secondary walk is lit in SecondaryWalk alone. -/
theorem rom_secondaryWalkLamp_iff (p : Phase) : (rom p).chanB.getLsbD 5 = true ↔ p = .secondaryWalk := by
  cases p <;> decide

/-- R90: secondary walk goes with secondary red. -/
theorem rom_secondaryRed_of_secondaryWalkLamp {p : Phase} (h : (rom p).chanB.getLsbD 5 = true) :
    (rom p).chanB.getLsbD 3 = true := by
  obtain rfl := (rom_secondaryWalkLamp_iff p).mp h
  rfl

/-- R90: either walk lamp goes with a road A that shows red and nothing else. -/
theorem rom_chanA_red_of_walkLamp {p : Phase}
    (h : (rom p).chanB.getLsbD 4 = true ∨ (rom p).chanB.getLsbD 5 = true) : (rom p).chanA = 0x10 := by
  rw [rom_primaryWalkLamp_iff, rom_secondaryWalkLamp_iff] at h
  obtain (rfl | rfl) | rfl := h <;> rfl

/-- R29: a road A that shows red and nothing else has yellow and green off. -/
theorem yellow_green_off_of_eq_red {c : Channel} (h : c = 0x10) : c.getLsbD 3 = false ∧ c.getLsbD 2 = false := by
  subst h
  decide

/-- Settles O13: the facts of the words, then those of the ports, where the two walk phases are named by their codes 4
and 5. -/
theorem walkLampsOnlyInWalkPhases : Obligations.WalkLampsOnlyInWalkPhases := by
  refine ⟨fun p => ⟨rom_primaryWalkLamp_iff p, fun h => rom_chanA_red_of_walkLamp (.inl h),
    rom_secondaryWalkLamp_iff p, rom_secondaryRed_of_secondaryWalkLamp,
    fun h => yellow_green_off_of_eq_red (rom_chanA_red_of_walkLamp h)⟩, fun s t h => ?_⟩
  obtain ⟨p, hphase, hA, hB⟩ := step_ports h
  have hsecondaryWalk : t.phase = 4 ↔ p = .secondaryWalk := by
    rw [hphase]
    exact code_eq_code_iff (q := .secondaryWalk)
  have hprimaryWalk : t.phase = 5 ↔ p = .primaryWalk := by
    rw [hphase]
    exact code_eq_code_iff (q := .primaryWalk)
  rw [hsecondaryWalk, hprimaryWalk]
  simp only [State.walkP, State.walkS, State.secondaryRed, State.primaryYellow, State.primaryGreen, hA, hB]
  exact ⟨rom_primaryWalkLamp_iff p, rom_secondaryWalkLamp_iff p, fun h => rom_chanA_red_of_walkLamp (.inl h),
    rom_secondaryRed_of_secondaryWalkLamp, fun h => yellow_green_off_of_eq_red (rom_chanA_red_of_walkLamp h)⟩

/-! ### The dwells -/

/-- R91: every phase lasts at least two seconds; the upper bound is the width of the field. -/
theorem two_le_rom_dwell (p : Phase) : 2 ≤ (rom p).dwell.toNat := by
  cases p <;> decide

/-- Settles O14: the lower bound excludes a dwell of 0, and three bits hold no more than 7. -/
theorem dwellsAreTwoToSeven : Obligations.DwellsAreTwoToSeven := by
  refine ⟨fun p => ⟨two_le_rom_dwell p, Nat.le_of_lt_succ (rom p).dwell.isLt, fun h0 => ?_⟩,
    rfl, rfl, rfl, rfl, rfl, rfl, rfl⟩
  have h2 := two_le_rom_dwell p
  rw [h0] at h2
  exact absurd h2 (by decide)

end Sys2Proof.Machine
end

section
/-!
PROOFS of 41_transition_lut.md: the full table, the sequences of conditions between phases, and the graph's edges.
-/

namespace Sys2Proof.Machine

/-! ### The full table -/

/-- R63: the codes of the phases are 0 to 6, since three bits hold no more than 7 and 7 names no phase. -/
theorem code_toNat_le_six (p : Phase) : p.code.toNat ≤ 6 := by
  have hlt : p.code.toNat < 8 := p.code.isLt
  have hne : p.code.toNat ≠ 7 := fun h => code_ne_seven p (BitVec.eq_of_toNat_eq h)
  omega

/-- Settles O23: the rows are read off the table; totality is a fact of the codes, since every entry is a phase. -/
theorem lutTableIsTheGrid : Obligations.LutTableIsTheGrid := by
  refine ⟨fun e he => ?_, fun p c => code_toNat_le_six (lut p c)⟩
  simp only [List.mem_cons, List.not_mem_nil, or_false] at he
  obtain rfl | rfl | rfl | rfl | rfl | rfl | rfl := he <;> rfl

/-! ### Sequences of conditions -/

@[simp] theorem dwellRun_nil (p : Phase) : dwellRun p [] = p := rfl

@[simp] theorem dwellRun_cons (p : Phase) (c : Cond) (cs : DwellProgram) :
    dwellRun p (c :: cs) = dwellRun (lut p c) cs := rfl

/-- Two sequences, one after the other: the second starts in the phase that the first ends in. -/
theorem dwellRun_append (p : Phase) (cs ds : DwellProgram) :
    dwellRun p (cs ++ ds) = dwellRun (dwellRun p cs) ds := by
  induction cs generalizing p with
  | nil => rw [List.nil_append, dwellRun_nil]
  | cons c cs ih => rw [List.cons_append, dwellRun_cons, dwellRun_cons, ih]

/-- R110's witness sequence from SecondaryGo to each phase. -/
def outward : Phase → DwellProgram
  | .secondaryGo => []
  | .secondaryWait => [2]
  | .primaryGo => [2, 0]
  | .primaryWait => [2, 0, 0]
  | .secondaryWalk => [2, 0, 0, 2]
  | .primaryWalk => [1]
  | .secondaryGoShort => [1, 0]

/-- R110's return from each phase to SecondaryGo. -/
def homeward : Phase → DwellProgram
  | .secondaryGo => []
  | .secondaryWait => [0, 0, 0]
  | .primaryGo => [0, 0]
  | .primaryWait => [0]
  | .secondaryWalk => [0]
  | .primaryWalk => [0, 0]
  | .secondaryGoShort => [0]

theorem dwellRun_outward (p : Phase) : dwellRun .secondaryGo (outward p) = p := by
  cases p <;> rfl

theorem dwellRun_homeward (p : Phase) : dwellRun p (homeward p) = .secondaryGo := by
  cases p <;> rfl

/-- R110: the transition graph is strongly connected, by way of SecondaryGo. -/
theorem dwellRun_homeward_append_outward (p q : Phase) : dwellRun p (homeward p ++ outward q) = q := by
  rw [dwellRun_append, dwellRun_homeward, dwellRun_outward]

/-- Settles O24. -/
theorem everyPhaseReachesEveryPhase : Obligations.EveryPhaseReachesEveryPhase :=
  ⟨dwellRun_outward .secondaryWait, dwellRun_outward .primaryWalk, dwellRun_outward .secondaryGoShort,
    dwellRun_outward .primaryGo, dwellRun_outward .primaryWait, dwellRun_outward .secondaryWalk,
    dwellRun_homeward .secondaryWait, dwellRun_homeward .primaryGo, dwellRun_homeward .primaryWait,
    dwellRun_homeward .secondaryWalk, dwellRun_homeward .primaryWalk, dwellRun_homeward .secondaryGoShort,
    fun p q => ⟨homeward p ++ outward q, dwellRun_homeward_append_outward p q⟩⟩

/-! ### Edges -/

/-- R111's distinct edges, by the phase they leave. -/
def successors : Phase → List Phase
  | .secondaryGo => [.secondaryGo, .secondaryWait, .primaryWalk]
  | .secondaryWait => [.primaryGo, .primaryWalk]
  | .primaryGo => [.primaryWait, .primaryWalk]
  | .primaryWait => [.secondaryGo, .secondaryWalk, .primaryWalk]
  | .secondaryWalk => [.secondaryGo, .primaryGo]
  | .primaryWalk => [.secondaryGoShort]
  | .secondaryGoShort => [.secondaryGo, .secondaryWait]

/-- Each of the 112 entries is one of R111's edges. -/
theorem lut_mem_successors (p : Phase) : ∀ c : Cond, lut p c ∈ successors p := by
  cases p <;> decide

/-- Each of R111's edges is taken under some condition. -/
theorem exists_lut_eq_of_mem_successors (p : Phase) : ∀ q ∈ successors p, ∃ c : Cond, lut p c = q := by
  cases p <;> decide

theorem exists_lut_eq_iff (p q : Phase) : (∃ c : Cond, lut p c = q) ↔ q ∈ successors p := by
  constructor
  · rintro ⟨c, rfl⟩
    exact lut_mem_successors p c
  · exact exists_lut_eq_of_mem_successors p q

theorem self_mem_successors_iff (p : Phase) : p ∈ successors p ↔ p = .secondaryGo := by
  cases p <;> decide

/-- R101: in SecondaryGo the phase is kept under conditions 0 and 8 alone. -/
theorem lut_secondaryGo_eq_self_iff : ∀ c : Cond, lut .secondaryGo c = .secondaryGo ↔ c = 0x0 ∨ c = 0x8 := by
  decide

/-- R111: only SecondaryGo has an edge to itself, so every other phase leaves under every condition. -/
theorem lut_eq_self_iff (p : Phase) (c : Cond) : lut p c = p ↔ p = .secondaryGo ∧ (c = 0x0 ∨ c = 0x8) := by
  constructor
  · intro hloop
    obtain rfl : p = .secondaryGo := (self_mem_successors_iff p).mp ((exists_lut_eq_iff p p).mp ⟨c, hloop⟩)
    exact ⟨rfl, (lut_secondaryGo_eq_self_iff c).mp hloop⟩
  · rintro ⟨rfl, hc⟩
    exact (lut_secondaryGo_eq_self_iff c).mpr hc

/-- Settles O25: the listed pairs are the phases with their successors. -/
theorem selfLoopsAndEdges : Obligations.SelfLoopsAndEdges := by
  refine ⟨lut_eq_self_iff, fun p q => ?_⟩
  rw [exists_lut_eq_iff]
  cases p <;> simp [successors]

end Sys2Proof.Machine
end

section
/-!
PROOFS of 42_output_mux.md: the ports as functions of the phase, their table, and that they change only with the phase.

A port is a function of the ROM's data output, of the phase and of the parameters. A step leaves the word of the phase in
force on the data output (`step_phase_romData`) and does not write the parameters (`step_params`).
-/

namespace Sys2Proof.Machine

/-! ### What a step says of the ports -/

/-- R11: the parameters are arguments of the step; no kind of step writes them. -/
theorem step_params {s t : State} (h : step s = .next t) : t.params = s.params := by
  obtain ⟨_, rfl⟩ | ⟨_, _, _, _, hkind⟩ := step_cases h
  · rfl
  · obtain ⟨_, _, rfl⟩ | ⟨_, _, rfl⟩ | ⟨_, rfl⟩ := hkind <;> rfl

/-- R120, R121: in a cycle that a step leads to, the phase in force names the word on the ROM's data output. -/
theorem step_romData_of_phase {s t : State} {p : Phase} (h : step s = .next t) (hp : t.phase = p.code) :
    t.romData = rom p := by
  obtain ⟨q, hq, hrom⟩ := step_phase_romData h
  obtain rfl : q = p := code_injective (hq.symm.trans hp)
  exact hrom

/-- R120, R121: a step leads to a consistent cycle from any state, consistent or not. -/
theorem step_consistent {s t : State} (h : step s = .next t) : t.Consistent := by
  obtain ⟨p, hphase, hrom⟩ := step_phase_romData h
  rw [State.Consistent, hphase, ofCode_code, hrom]
  rfl

/-- R123: the debug port in a phase. -/
theorem phaseO_of_phase {t : State} {c : PhaseCode} (hc : t.phase = c) :
    t.phaseO = if t.params.hasPhaseO then some c else none := by
  rw [State.phaseO, hc]

/-- R146: the state check reports phase code 7 before all else. -/
theorem stateCheck_of_phase_seven {s : State} (h7 : s.phase = 7) : stateCheck s = some (.illegalPhase s.record) :=
  if_pos h7

/-- Settles O27: the ports are read off the ROM word that every step leaves on the data output; with phase code 7 the
state check stops the edge. -/
theorem portsAreFunctionsOfThePhase : Obligations.PortsAreFunctionsOfThePhase := by
  refine ⟨fun s t h => ?_, fun s h7 hrst => step_of_illegal hrst (stateCheck_of_phase_seven h7)⟩
  obtain ⟨p, hphase, hA, hB⟩ := step_ports h
  exact ⟨p, hphase, hA, hB, congrArg (BitVec.getLsbD · 4) hB, congrArg (BitVec.getLsbD · 5) hB,
    phaseO_of_phase hphase⟩

/-! ### The table of the outputs -/

/-- The row of R126's table for a phase, computed from its ROM word: the code, road A's port and its lamps (green, yellow,
red), road B's port and its lamps, and the two walk drivers. -/
def summaryRow (p : Phase) : PhaseCode × Channel × List Bool × Channel × List Bool × Bool × Bool :=
  let w := rom p
  (p.code, w.chanA, [w.chanA.getLsbD 2, w.chanA.getLsbD 3, w.chanA.getLsbD 4],
    w.chanB, [w.chanB.getLsbD 1, w.chanB.getLsbD 2, w.chanB.getLsbD 3], w.chanB.getLsbD 4, w.chanB.getLsbD 5)

/-- R126: after a step into phase `p` the ports and lamps are those of the row of `p`. -/
theorem step_ports_eq_summaryRow {s t : State} {p : Phase} (h : step s = .next t) (hp : t.phase = p.code) :
    (t.phase, t.roadA, [t.primaryGreen, t.primaryYellow, t.primaryRed],
      t.roadB, [t.secondaryGreen, t.secondaryYellow, t.secondaryRed], t.walkP, t.walkS) = summaryRow p := by
  simp only [State.primaryGreen, State.primaryYellow, State.primaryRed, State.secondaryGreen, State.secondaryYellow,
    State.secondaryRed, State.walkP, State.walkS, State.roadA, State.roadB, step_romData_of_phase h hp, hp, summaryRow]

/-- Settles O28: the tabled values are the rows computed from the ROM words of the seven phases, in the order of their
codes. -/
theorem outputSummaryPerPhase : Obligations.OutputSummaryPerPhase := by
  intro e he s t h hphase
  obtain ⟨p, _, rfl⟩ : ∃ p ∈ [Phase.secondaryGo, .secondaryWait, .primaryGo, .primaryWait, .secondaryWalk,
      .primaryWalk, .secondaryGoShort], summaryRow p = e := List.mem_map.mp he
  rw [← step_ports_eq_summaryRow h hphase]
  exact ⟨rfl, rfl, rfl, rfl, rfl, rfl, fun hbuilt => (phaseO_of_phase rfl).trans (if_pos hbuilt)⟩

/-! ### The outputs as a Moore function -/

/-- R124: in consistent cycles the phase determines the word on the ROM's data output. -/
theorem romData_eq_of_consistent {s t : State} (hs : s.Consistent) (ht : t.Consistent) (hphase : s.phase = t.phase) :
    s.romData = t.romData := by
  rw [State.Consistent, hphase] at hs
  exact Option.some.inj (hs.symm.trans ht)

/-- R124: the outputs of consistent cycles of one machine depend on the phase alone. -/
theorem outputs_eq_of_consistent {s t : State} (hs : s.Consistent) (ht : t.Consistent) (hparams : s.params = t.params)
    (hphase : s.phase = t.phase) :
    s.roadA = t.roadA ∧ s.roadB = t.roadB ∧ s.walkP = t.walkP ∧ s.walkS = t.walkS ∧ s.phaseO = t.phaseO := by
  have hrom := romData_eq_of_consistent hs ht hphase
  have hB : s.roadB = t.roadB := congrArg RomWord.chanB hrom
  have hO : s.phaseO = t.phaseO := by rw [State.phaseO, State.phaseO, hparams, hphase]
  exact ⟨congrArg RomWord.chanA hrom, hB, congrArg (BitVec.getLsbD · 4) hB, congrArg (BitVec.getLsbD · 5) hB, hO⟩

/-- Settles O29: a step leads to a consistent cycle of the same machine, so the Moore property compares that cycle with
the one before it. -/
theorem outputsChangeOnlyWithThePhase : Obligations.OutputsChangeOnlyWithThePhase :=
  ⟨fun _ _ hs ht hparams hphase => outputs_eq_of_consistent hs ht hparams hphase,
    fun _ _ hs h hphase => outputs_eq_of_consistent (step_consistent h) hs (step_params h) hphase⟩

end Sys2Proof.Machine
end

section
/-!
PROOFS of 43_dwell_sequencer.md, the cycle level: the strobes, the four operations and the edges that perform them, the
state check, the invariant, and the run that never ends.
-/

namespace Sys2Proof.Machine

/-! ### The strobes -/

@[simp] theorem secEnd_iff (s : State) : s.secEnd = true ↔ s.pre = s.params.cps - 1 := decide_eq_true_iff

@[simp] theorem lastSec_iff (s : State) : s.lastSec = true ↔ s.secLeft = 1 := decide_eq_true_iff

/-- R140: with `CPS` = 1 the prescaler has the one legal value 0, which is also the last one. -/
theorem pre_eq_last_of_cps_one {s : State} (hl : s.Legal) (hcps : s.params.cps = 1) : s.pre = s.params.cps - 1 := by
  obtain ⟨-, -, hpre⟩ := hl
  omega

/-- Settles O31. -/
theorem strobesFollowTheCounters : Obligations.StrobesFollowTheCounters :=
  ⟨fun s => ⟨secEnd_iff s, lastSec_iff s⟩,
    fun s hl hcps => (secEnd_iff s).mpr (pre_eq_last_of_cps_one hl hcps)⟩

/-! ### The edge of each operation -/

/-- R120, R121: in a consistent state the lamps already carry the word of the phase in force. -/
theorem romData_of_consistent {s : State} {p : Phase} (hs : s.Consistent) (hp : s.phase = p.code) :
    s.romData = rom p := by
  rw [State.Consistent, hp, ofCode_code] at hs
  exact (Option.some.inj hs).symm

/-- R145: the ADVANCE edge. -/
theorem step_advance {s : State} {p : Phase} (hr : s.input.rst = false) (hl : s.Legal) (ha : s.AtAdvance)
    (hp : s.phase = p.code) : step s = .next (afterCycle (entered (lut p s.input.cond) s)) := by
  rw [step_of_legal hr hl hp, if_pos ha.1, if_pos ha.2]

/-- R144: the SECOND edge; the lamps are read again in the phase that is kept. -/
theorem step_second {s : State} (hr : s.input.rst = false) (hs : s.Inv) (hpre : s.pre = s.params.cps - 1)
    (hsec : s.secLeft ≠ 1) : step s = .next (afterCycle { s with secLeft := s.secLeft - 1, pre := 0 }) := by
  obtain ⟨hl, hc⟩ := hs
  obtain ⟨p, hp⟩ := exists_code_of_ne_seven hl.1
  rw [step_of_legal hr hl hp, if_pos hpre, if_neg hsec, ← romData_of_consistent hc hp]

/-- R143: the COUNT edge; the lamps are read again in the phase that is kept. -/
theorem step_count {s : State} (hr : s.input.rst = false) (hs : s.Inv) (hpre : s.pre + 1 < s.params.cps) :
    step s = .next (afterCycle { s with pre := s.pre + 1 }) := by
  obtain ⟨hl, hc⟩ := hs
  obtain ⟨p, hp⟩ := exists_code_of_ne_seven hl.1
  have hne : s.pre ≠ s.params.cps - 1 := by omega
  rw [step_of_legal hr hl hp, if_neg hne, ← romData_of_consistent hc hp]

/-! ### COUNT -/

/-- Settles O33. -/
theorem countOperation : Obligations.CountOperation := by
  refine ⟨fun b s hpre => ?_, fun s hs hr hpre => step_count hr hs hpre, fun s hl hr hcps b => ?_⟩
  · rw [exec_seqCount, setPre_of_lt hpre]
  · rw [fetchSeq_of_not_rst hr, if_pos (pre_eq_last_of_cps_one hl hcps)]
    split <;> nofun

/-! ### SECOND -/

/-- R144: SECOND does not wrap on a count other than 0. -/
theorem toNat_sub_one {d : Seconds} (h0 : d ≠ 0) : (d - 1).toNat = d.toNat - 1 := by
  bv_omega

/-- R144: a count other than 0 and 1 is at least 2, so that 1 is left after SECOND. -/
theorem two_le_toNat {d : Seconds} (h0 : d ≠ 0) (h1 : d ≠ 1) : 2 ≤ d.toNat := by
  bv_omega

/-- Settles O34. -/
theorem secondOperation : Obligations.SecondOperation := by
  refine ⟨fun s _ => exec_seqSecond s, fun s hs hr hpre hsec => ?_, fun s hl hr hcps hsec => ?_⟩
  · have ⟨⟨_, h0, _⟩, _⟩ := hs
    have h2 := two_le_toNat h0 hsec
    have hsub := toNat_sub_one h0
    exact ⟨step_second hr hs hpre hsec, hsub, by omega⟩
  · rw [fetchSeq_of_not_rst hr, if_pos (pre_eq_last_of_cps_one hl hcps), if_neg hsec]

/-! ### ADVANCE -/

/-- Settles O35. -/
theorem advanceOperation : Obligations.AdvanceOperation :=
  ⟨fun _ _ hp => exec_seqAdvance hp, fun _ _ hl hr hpre hsec hp => step_advance hr hl ⟨hpre, hsec⟩ hp⟩

/-! ### The state check -/

/-- R146: with a phase in force, a count of 0 is reported next. -/
theorem stateCheck_of_secLeft_zero {s : State} (h7 : s.phase ≠ 7) (h0 : s.secLeft = 0) :
    stateCheck s = some (.illegalDwellCount s.record) := by
  rw [stateCheck, if_neg h7, if_pos h0]

/-- R146: the prescaler is reported last. -/
theorem stateCheck_of_cps_le_pre {s : State} (h7 : s.phase ≠ 7) (h0 : s.secLeft ≠ 0) (hpre : s.params.cps ≤ s.pre) :
    stateCheck s = some (.illegalPrescale s.record) := by
  rw [stateCheck, if_neg h7, if_neg h0, if_pos hpre]

/-- R151: a legal state has a successor under every input. -/
theorem exists_step_of_legal {s : State} (hl : s.Legal) : ∃ t, step s = .next t := by
  obtain ⟨p, hp⟩ := exists_code_of_ne_seven hl.1
  cases hr : s.input.rst with
  | true => exact ⟨_, step_of_rst hr⟩
  | false => exact ⟨_, step_of_legal hr hl hp⟩

/-- Settles O40. -/
theorem stepOutcomeByPriority : Obligations.StepOutcomeByPriority := fun _ =>
  ⟨fun hr => ⟨_, step_of_rst hr⟩,
    fun hr h7 => step_of_illegal hr (stateCheck_of_phase_seven h7),
    fun hr h7 h0 => step_of_illegal hr (stateCheck_of_secLeft_zero h7 h0),
    fun hr h7 h0 hpre => step_of_illegal hr (stateCheck_of_cps_le_pre h7 h0 hpre),
    fun _ h7 h0 hpre => exists_step_of_legal ⟨h7, h0, hpre⟩⟩

/-! ### The condition -/

/-- R149: a fault depends on the registers alone. -/
theorem step_fault_of_registers {s : State} {f : Fault} (hf : stateCheck s = some f) (c : Cond) (rest : CycleProgram) :
    step { s with stimulus := { rst := false, cond := c } :: rest } = .fault f :=
  step_of_illegal (s := { s with stimulus := { rst := false, cond := c } :: rest }) rfl hf

/-- R142: RESET ignores the condition. -/
theorem step_reset_of_registers (s : State) (c : Cond) (rest : CycleProgram) :
    step { s with stimulus := { rst := true, cond := c } :: rest } =
      .next { entered .secondaryGo s with stimulus := rest, cycle := s.cycle + 1 } :=
  step_of_rst rfl

/-- R143, R144: what SECOND and COUNT lead to is written in the registers alone. -/
theorem step_count_or_second_of_registers {s : State} {p : Phase} (hl : s.Legal) (ha : ¬s.AtAdvance)
    (hp : s.phase = p.code) (c : Cond) (rest : CycleProgram) :
    step { s with stimulus := { rst := false, cond := c } :: rest } =
      .next { s with
        secLeft := if s.pre = s.params.cps - 1 then s.secLeft - 1 else s.secLeft
        pre := if s.pre = s.params.cps - 1 then 0 else s.pre + 1
        romData := rom p, stimulus := rest, cycle := s.cycle + 1 } := by
  rw [step_of_legal (s := { s with stimulus := { rst := false, cond := c } :: rest }) rfl hl hp]
  dsimp only
  by_cases hpre : s.pre = s.params.cps - 1
  · have hsec : s.secLeft ≠ 1 := fun hsec => ha ⟨hpre, hsec⟩
    simp only [if_pos hpre, if_neg hsec]
    rfl
  · simp only [if_neg hpre]
    rfl

/-- Settles O44: in each case the result does not mention the condition. -/
theorem condIsReadOnlyByAdvance : Obligations.CondIsReadOnlyByAdvance := by
  intro s r c d rest h
  cases r with
  | true => rw [step_reset_of_registers, step_reset_of_registers]
  | false =>
    have ha : ¬s.AtAdvance := h.resolve_left (by decide)
    cases hf : stateCheck s with
    | some f => rw [step_fault_of_registers hf, step_fault_of_registers hf]
    | none =>
      have hl := (stateCheck_eq_none_iff s).mp hf
      obtain ⟨p, hp⟩ := exists_code_of_ne_seven hl.1
      rw [step_count_or_second_of_registers hl ha hp, step_count_or_second_of_registers hl ha hp]

/-! ### The invariant -/

/-- R64, R91: RESET and ADVANCE load the code of a phase and a dwell of at least 2. -/
theorem entered_legal (p : Phase) {s : State} (hcps : 1 ≤ s.params.cps) : (entered p s).Legal := by
  refine ⟨code_ne_seven p, fun h0 => ?_, hcps⟩
  have h2 := two_le_rom_dwell p
  rw [show (rom p).dwell = 0 from h0] at h2
  exact absurd h2 (by decide)

/-- R150: a step leads to a legal state, from a legal state or, by RESET, from any. -/
theorem step_legal {s t : State} (hcps : 1 ≤ s.params.cps) (h : step s = .next t) : t.Legal := by
  obtain ⟨_, rfl⟩ | ⟨_, ⟨h7, h0, hpre⟩, p, _, hkind⟩ := step_cases h
  · exact entered_legal .secondaryGo hcps
  · obtain ⟨_, _, rfl⟩ | ⟨_, h1, rfl⟩ | ⟨hlast, rfl⟩ := hkind
    · exact entered_legal (lut p s.input.cond) hcps
    · exact ⟨h7, sub_ne_zero.mpr h1, hcps⟩
    · have hlt : s.pre + 1 < s.params.cps := by omega
      exact ⟨h7, h0, hlt⟩

/-- R150 with R120 and R121. -/
theorem step_inv {s t : State} (hcps : 1 ≤ s.params.cps) (h : step s = .next t) : t.Inv :=
  ⟨step_legal hcps h, step_consistent h⟩

/-- A legal prescaler is below `CPS`, so there is at least one clock cycle in a second. -/
theorem one_le_cps {s : State} (hl : s.Legal) : 1 ≤ s.params.cps := by
  obtain ⟨-, -, hpre⟩ := hl
  omega

/-- R151: from a state of the invariant every number of edges leads to one. -/
theorem exists_run_of_inv (k : Nat) {s : State} (hs : s.Inv) : ∃ t, run k s = .next t ∧ t.Inv := by
  induction k generalizing s with
  | zero => exact ⟨s, rfl, hs⟩
  | succ k ih =>
    obtain ⟨u, hu⟩ := exists_step_of_legal hs.1
    obtain ⟨t, ht, hinv⟩ := ih (step_inv (one_le_cps hs.1) hu)
    exact ⟨t, by rw [run_succ, hu, andThen_next, ht], hinv⟩

/-- R34: the reset state satisfies the invariant, since its `CPS` is a successor; the inputs do not matter. -/
theorem reset_inv (inputs : CycleProgram) : State.Inv { State.reset with stimulus := inputs } :=
  ⟨⟨code_ne_seven .secondaryGo, (by decide : (7 : Seconds) ≠ 0), Nat.succ_pos Config.cpsPred⟩, rfl⟩

/-- Settles O53. -/
theorem runNeverEnds : Obligations.RunNeverEnds := by
  refine ⟨fun k s hs => exists_run_of_inv k hs, fun k inputs => ?_⟩
  obtain ⟨t, ht, hlegal, _⟩ := exists_run_of_inv k (reset_inv inputs)
  exact ⟨t, ht, hlegal⟩

end Sys2Proof.Machine
end

section
/-!
PROOFS of 43_dwell_sequencer.md, over runs: the reset pulse, the cycles left in a visit, the visit of a phase, and the dwell
level.

A run from the entry of phase `p` is a run from `entered p s`. Each claim names its state after `n` edges by the registers
and lamps it has and by `later n s`, the cycle `n` cycles on.
-/

namespace Sys2Proof.Machine

/-! ### The cycles after this one -/

/-- The cycle `n` cycles after `s`, with the registers and lamps of `s`. -/
def later (n : Nat) (s : State) : State := { s with stimulus := s.stimulus.drop n, cycle := s.cycle + n }

@[simp] theorem later_params (n : Nat) (s : State) : (later n s).params = s.params := rfl

theorem later_later (m n : Nat) (s : State) : later m (later n s) = later (n + m) s := by
  simp only [later, List.drop_drop, Nat.add_assoc]

theorem afterCycle_eq_later (s : State) : afterCycle s = later 1 s := by
  cases h : s.stimulus <;> simp [afterCycle, later, h]

@[simp] theorem afterCycle_later (n : Nat) (s : State) : afterCycle (later n s) = later (n + 1) s := by
  rw [afterCycle_eq_later, later_later]

theorem inputAt_later (m n : Nat) (s : State) : (later n s).inputAt m = s.inputAt (n + m) := by
  simp only [State.inputAt, later, List.getD_eq_getElem?_getD, List.getElem?_drop, Nat.add_assoc]

theorem input_later (n : Nat) (s : State) : (later n s).input = s.inputAt n := by
  rw [← inputAt_zero, inputAt_later, Nat.add_zero]

/-! ### The last edge of a run -/

theorem run_one (s : State) : run 1 s = step s := by
  rw [run_succ]
  cases step s <;> rfl

/-- A run's last edge starts from the state that the edges before it lead to. -/
theorem run_succ_of_run {k : Nat} {s t : State} (h : run k s = .next t) : run (k + 1) s = step t := by
  rw [run_add, h, andThen_next, run_one]

/-! ### The reset pulse -/

/-- R142: holding `rst` repeats RESET: each further edge of the pulse leads to the same registers and lamps. -/
theorem run_reset_pulse (k : Nat) {s : State} (hr : ∀ j < k + 1, (s.inputAt j).rst = true) :
    run (k + 1) s = .next (entered .secondaryGo (later (k + 1) s)) := by
  induction k with
  | zero =>
    have h0 : s.input.rst = true := by simpa only [inputAt_zero] using hr 0 Nat.one_pos
    rw [run_one, step_of_rst h0, afterCycle_eq_later]
    rfl
  | succ k ih =>
    have hlast : (entered .secondaryGo (later (k + 1) s)).input.rst = true :=
      (congrArg Input.rst (input_later (k + 1) s)).trans (hr (k + 1) (Nat.lt_succ_self _))
    rw [run_succ_of_run (ih fun j hj => hr j (Nat.lt_succ_of_lt hj)), step_of_rst hlast, ← afterCycle_later (k + 1) s]
    rfl

/-- Settles O32: `entered .secondaryGo` writes out R142's registers and SecondaryGo's lamps. -/
theorem resetOperation : Obligations.ResetOperation :=
  ⟨fun a b s => exec_seqReset a b s, fun _ hr => step_of_rst hr, fun k _ hr => run_reset_pulse k hr⟩

/-! ### The cycles left in a visit -/

/-- R147: a visit that begins has `D * CPS` cycles left. -/
theorem cyclesLeft_entered (p : Phase) (s : State) : (entered p s).cyclesLeft = visitCycles p s.params.cps := by
  obtain ⟨d, hd⟩ := Nat.exists_eq_add_of_le' (Nat.le_of_succ_le (two_le_rom_dwell p))
  change ((rom p).dwell.toNat - 1) * s.params.cps + s.params.cps = (rom p).dwell.toNat * s.params.cps
  rw [hd, Nat.add_sub_cancel, Nat.succ_mul]

/-- R145, R147: one cycle is left exactly in the last cycle of the last second. -/
theorem atAdvance_iff_cyclesLeft {s : State} (hl : s.Legal) : s.AtAdvance ↔ s.cyclesLeft = 1 := by
  obtain ⟨_, h0, hpre⟩ := hl
  have hsec : s.secLeft.toNat ≠ 0 := fun h => h0 (BitVec.eq_of_toNat_eq h)
  constructor
  · rintro ⟨hlast, h1⟩
    simp only [State.cyclesLeft, h1, hlast]
    change 0 * _ + _ = 1
    omega
  · intro h
    simp only [State.cyclesLeft] at h
    have hmul : (s.secLeft.toNat - 1) * s.params.cps = 0 := by omega
    have hle : s.secLeft.toNat - 1 = 0 := (Nat.mul_eq_zero.mp hmul).resolve_right (by omega)
    exact ⟨by omega, BitVec.eq_of_toNat_eq (show s.secLeft.toNat = 1 by omega)⟩

/-- R144: SECOND takes one off the cycles left: it ends a second whose last cycle this is. -/
theorem cyclesLeft_second {s : State} (hl : s.Legal) (hpre : s.pre = s.params.cps - 1) (h1 : s.secLeft ≠ 1) :
    State.cyclesLeft { s with secLeft := s.secLeft - 1, pre := 0 } + 1 = s.cyclesLeft := by
  obtain ⟨_, h0, hlt⟩ := hl
  obtain ⟨m, hm⟩ := Nat.exists_eq_add_of_le (two_le_toNat h0 h1)
  have hm' : s.secLeft.toNat - 1 = m + 1 := by omega
  simp only [State.cyclesLeft, toNat_sub_one h0, hm', Nat.add_sub_cancel, Nat.succ_mul]
  omega

/-- R143: COUNT takes one off the cycles left. -/
theorem cyclesLeft_count {s : State} (hlt : s.pre < s.params.cps) :
    State.cyclesLeft { s with pre := s.pre + 1 } + 1 = s.cyclesLeft := by
  simp only [State.cyclesLeft]
  omega

/-- Settles O46: the cycles left are a measure of the visit that every edge but the ADVANCE lowers by one. -/
theorem dwellCountsDownToTheAdvance : Obligations.DwellCountsDownToTheAdvance := by
  intro s t hl hr h
  refine ⟨atAdvance_iff_cyclesLeft hl, ?_⟩
  have ⟨_, _, hlt⟩ := hl
  have hlegal := step_legal (one_le_cps hl) h
  obtain ⟨hrst, _⟩ | ⟨_, _, p, _, hkind⟩ := step_cases h
  · exact absurd (hr.symm.trans hrst) (by decide)
  · obtain ⟨hpre, h1, rfl⟩ | ⟨hpre, h1, rfl⟩ | ⟨hpre, rfl⟩ := hkind
    · exact ⟨fun hna => absurd ⟨hpre, h1⟩ hna, fun _ => ⟨lut p s.input.cond, rfl, cyclesLeft_entered _ s⟩⟩
    · exact ⟨fun _ => ⟨rfl, hlegal, cyclesLeft_second hl hpre h1⟩, fun ha => absurd ha.2 h1⟩
    · exact ⟨fun _ => ⟨rfl, hlegal, cyclesLeft_count hlt⟩, fun ha => absurd ha.1 hpre⟩

/-! ### The visit of a phase -/

/-- R147: the state `k` cycles into the visit of `p` that begins in the cycle of `s`. -/
def midVisit (p : Phase) (k : Nat) (s : State) : State :=
  { later k s with
    phase := p.code
    secLeft := BitVec.ofNat 3 ((rom p).dwell.toNat - k / s.params.cps)
    pre := k % s.params.cps
    romData := rom p }

theorem midVisit_zero (p : Phase) (s : State) : midVisit p 0 s = entered p s := by
  simp [midVisit, entered, later]

theorem input_midVisit (p : Phase) (k : Nat) (s : State) : (midVisit p k s).input = s.inputAt k := input_later k s

/-- R147: fewer than `D` seconds are over before the visit ends. -/
theorem div_lt_dwell {p : Phase} {k cps : Nat} (hcps : 1 ≤ cps) (hk : k < visitCycles p cps) :
    k / cps < (rom p).dwell.toNat :=
  (Nat.div_lt_iff_lt_mul hcps).mpr hk

theorem midVisit_secLeft_toNat (p : Phase) (k : Nat) (s : State) :
    (midVisit p k s).secLeft.toNat = (rom p).dwell.toNat - k / s.params.cps :=
  Nat.mod_eq_of_lt ((Nat.sub_le _ _).trans_lt (rom p).dwell.isLt)

/-- R150: the visit goes through legal and consistent states. -/
theorem midVisit_inv {p : Phase} {k : Nat} {s : State} (hcps : 1 ≤ s.params.cps)
    (hk : k < visitCycles p s.params.cps) : (midVisit p k s).Inv := by
  have hsec := midVisit_secLeft_toNat p k s
  have hdiv := div_lt_dwell hcps hk
  refine ⟨⟨code_ne_seven p, fun h0 => ?_, Nat.mod_lt k hcps⟩, ?_⟩
  · rw [h0] at hsec
    change 0 = _ at hsec
    omega
  · exact congrArg (Option.map rom) (ofCode_code p)

/-- R147: `k` cycles into the visit `k` of its cycles are over. -/
theorem midVisit_cyclesLeft {p : Phase} {k : Nat} {s : State} (hcps : 1 ≤ s.params.cps)
    (hk : k < visitCycles p s.params.cps) : (midVisit p k s).cyclesLeft + k = visitCycles p s.params.cps := by
  obtain ⟨m, hm⟩ := Nat.exists_eq_add_of_lt (div_lt_dwell hcps hk)
  have hsec : (midVisit p k s).secLeft.toNat - 1 = m := by
    rw [midVisit_secLeft_toNat]
    omega
  have hmod := Nat.mod_lt k hcps
  have hdivmod := Nat.div_add_mod' k s.params.cps
  rw [State.cyclesLeft, hsec, visitCycles, hm, Nat.succ_mul, Nat.add_mul]
  change m * s.params.cps + (s.params.cps - k % s.params.cps) + k = _
  omega

/-- R147: the ADVANCE is the last edge of the visit and no other. -/
theorem midVisit_atAdvance_iff {p : Phase} {k : Nat} {s : State} (hcps : 1 ≤ s.params.cps)
    (hk : k < visitCycles p s.params.cps) : (midVisit p k s).AtAdvance ↔ k + 1 = visitCycles p s.params.cps := by
  have hleft := midVisit_cyclesLeft hcps hk
  rw [atAdvance_iff_cyclesLeft (midVisit_inv hcps hk).1]
  omega

/-- R147: at the end of a second one more second is over, and its cycles are counted afresh. -/
theorem div_mod_succ_of_last {k cps : Nat} (hcps : 1 ≤ cps) (hlast : k % cps = cps - 1) :
    (k + 1) / cps = k / cps + 1 ∧ (k + 1) % cps = 0 := by
  have hdivmod := Nat.mod_add_div k cps
  exact (Nat.div_mod_unique hcps).mpr ⟨by rw [Nat.mul_succ]; omega, hcps⟩

/-- R147: inside a second one more of its cycles is over. -/
theorem div_mod_succ_of_lt {k cps : Nat} (hlt : k % cps + 1 < cps) :
    (k + 1) / cps = k / cps ∧ (k + 1) % cps = k % cps + 1 := by
  have hdivmod := Nat.mod_add_div k cps
  exact (Nat.div_mod_unique (by omega)).mpr ⟨by omega, hlt⟩

/-- R143, R144, R147: an edge inside the visit leads one cycle further into it, by SECOND at the end of a second and by
COUNT inside one. -/
theorem step_midVisit {p : Phase} {k : Nat} {s : State} (hcps : 1 ≤ s.params.cps)
    (hk : k + 1 < visitCycles p s.params.cps) (hr : (s.inputAt k).rst = false) :
    step (midVisit p k s) = .next (midVisit p (k + 1) s) := by
  have hk' : k < visitCycles p s.params.cps := Nat.lt_of_succ_lt hk
  have hinv := midVisit_inv hcps hk'
  have hr' : (midVisit p k s).input.rst = false := by rw [input_midVisit, hr]
  by_cases hlast : k % s.params.cps = s.params.cps - 1
  · have hsec : (midVisit p k s).secLeft ≠ 1 := fun h1 =>
      absurd ((midVisit_atAdvance_iff hcps hk').mp ⟨hlast, h1⟩) (Nat.ne_of_lt hk)
    obtain ⟨hdiv, hmod⟩ := div_mod_succ_of_last hcps hlast
    have hsub := BitVec.ofNat_sub_ofNat_of_le (w := 3) ((rom p).dwell.toNat - k / s.params.cps) 1 (by decide)
      (Nat.sub_pos_of_lt (div_lt_dwell hcps hk'))
    rw [step_second hr' hinv hlast hsec]
    simp only [midVisit, hdiv, hmod, Nat.sub_add_eq, ← hsub, ← afterCycle_later]
    rfl
  · have hlt : k % s.params.cps + 1 < s.params.cps := by
      have := Nat.mod_lt k hcps
      omega
    obtain ⟨hdiv, hmod⟩ := div_mod_succ_of_lt hlt
    rw [step_count hr' hinv hlt]
    simp only [midVisit, hdiv, hmod, ← afterCycle_later]
    rfl

/-- R147: the counters throughout the visit. -/
theorem run_midVisit {p : Phase} {k : Nat} {s : State} (hcps : 1 ≤ s.params.cps) (hk : k < visitCycles p s.params.cps)
    (hr : ∀ j < k, (s.inputAt j).rst = false) : run k (entered p s) = .next (midVisit p k s) := by
  induction k with
  | zero => rw [run_zero, midVisit_zero]
  | succ k ih =>
    rw [run_succ_of_run (ih (Nat.lt_of_succ_lt hk) fun j hj => hr j (Nat.lt_succ_of_lt hj))]
    exact step_midVisit hcps hk (hr k (Nat.lt_succ_self k))

theorem visitCycles_pos (p : Phase) {cps : Nat} (hcps : 1 ≤ cps) : 1 ≤ visitCycles p cps :=
  Nat.mul_pos (Nat.lt_of_lt_of_le (by decide) (two_le_rom_dwell p)) hcps

/-- R145, R147: the whole visit: its last edge is the ADVANCE, which samples the condition of its last cycle. -/
theorem run_visitCycles {p : Phase} {s : State} (hcps : 1 ≤ s.params.cps)
    (hr : ∀ j < visitCycles p s.params.cps, (s.inputAt j).rst = false) :
    run (visitCycles p s.params.cps) (entered p s) =
      .next (entered (lut p (s.inputAt (visitCycles p s.params.cps - 1)).cond) (later (visitCycles p s.params.cps) s)) := by
  obtain ⟨k, hV⟩ := Nat.exists_eq_add_of_le' (visitCycles_pos p hcps)
  have hk : k < visitCycles p s.params.cps := by omega
  have hrk : (midVisit p k s).input.rst = false := by rw [input_midVisit, hr k hk]
  have ha : (midVisit p k s).AtAdvance := (midVisit_atAdvance_iff hcps hk).mpr hV.symm
  rw [hV, run_succ_of_run (run_midVisit hcps hk fun j hj => hr j (hj.trans hk)),
    step_advance hrk (midVisit_inv hcps hk).1 ha rfl, input_midVisit, Nat.add_sub_cancel, ← afterCycle_later]
  rfl

/-- A state that holds the registers and lamps of an entered phase is the state that entering it leaves. -/
theorem entered_eq_self {p : Phase} {s : State} (hp : s.phase = p.code) (hsec : s.secLeft = (rom p).dwell)
    (hpre : s.pre = 0) (hrom : s.romData = rom p) : entered p s = s := by
  rw [entered, ← hp, ← hsec, ← hpre, ← hrom]

/-- Settles O47. -/
theorem visitLastsDwellTimesCps : Obligations.VisitLastsDwellTimesCps := by
  intro s p hp hsec hpre hrom hcps hr
  rw [← entered_eq_self hp hsec hpre hrom]
  exact ⟨rfl, fun k hk => run_midVisit hcps hk fun j hj => hr j (hj.trans hk), run_visitCycles hcps hr⟩

/-! ### The dwell level -/

/-- R148: `p_(k+1)`, with the sample of the cycle before edge `E_(k+1)`. -/
theorem visit_succ_phase (s : State) (p : Phase) (k : Nat) : (visit s p (k + 1)).1 =
    lut (visit s p k).1 (s.inputAt ((visit s p k).2 + visitCycles (visit s p k).1 s.params.cps - 1)).cond := rfl

/-- R148: `E_(k+1)`. -/
theorem visit_succ_edge (s : State) (p : Phase) (k : Nat) :
    (visit s p (k + 1)).2 = (visit s p k).2 + visitCycles (visit s p k).1 s.params.cps := rfl

/-- R148: the `k`-th ADVANCE is edge `E_k` and enters `p_k`. The inputs of visit `k` are those of `s` from cycle `E_k` on. -/
theorem run_visit (k : Nat) {p : Phase} {s : State} (hcps : 1 ≤ s.params.cps)
    (hr : ∀ j < (visit s p k).2, (s.inputAt j).rst = false) :
    run (visit s p k).2 (entered p s) = .next (entered (visit s p k).1 (later (visit s p k).2 s)) := by
  induction k with
  | zero => rfl
  | succ k ih =>
    rw [visit_succ_edge] at hr
    have hvisit := run_visitCycles (p := (visit s p k).1) (s := later (visit s p k).2 s) hcps fun j hj => by
      rw [inputAt_later]
      exact hr _ (Nat.add_lt_add_left hj _)
    rw [later_params, inputAt_later, later_later, ← Nat.add_sub_assoc (visitCycles_pos _ hcps)] at hvisit
    rw [visit_succ_edge, visit_succ_phase, run_add, ih fun j hj => hr j (Nat.lt_add_right _ hj), andThen_next]
    exact hvisit

/-- R148: the cycle `j` cycles into visit `k`. -/
theorem run_visit_add {k j : Nat} {p : Phase} {s : State} (hcps : 1 ≤ s.params.cps)
    (hj : j < visitCycles (visit s p k).1 s.params.cps) (hr : ∀ i < (visit s p k).2 + j, (s.inputAt i).rst = false) :
    run ((visit s p k).2 + j) (entered p s) = .next (midVisit (visit s p k).1 j (later (visit s p k).2 s)) := by
  rw [run_add, run_visit k hcps fun i hi => hr i (Nat.lt_add_right _ hi), andThen_next]
  refine run_midVisit hcps hj fun i hi => ?_
  rw [inputAt_later]
  exact hr _ (Nat.add_lt_add_left hi _)

/-- Settles O48: cycle `n` of the second part is `n - E_k` cycles into visit `k`. -/
theorem dwellLevelRefinesTheCycleLevel : Obligations.DwellLevelRefinesTheCycleLevel := by
  intro s p k hp hsec hpre hrom hcps hr
  have hself := entered_eq_self hp hsec hpre hrom
  rw [visit_succ_edge] at hr ⊢
  refine ⟨?_, fun n hn hlt => ?_⟩
  · have hrun := run_visit k (p := p) hcps fun j hj => hr j (Nat.lt_add_right _ hj)
    rwa [hself] at hrun
  · obtain ⟨j, rfl⟩ := Nat.exists_eq_add_of_le hn
    have hj : j < visitCycles (visit s p k).1 s.params.cps := Nat.lt_of_add_lt_add_left hlt
    have hrun := run_visit_add hcps hj fun i hi => hr i (hi.trans hlt)
    rw [hself] at hrun
    refine ⟨_, hrun, rfl, rfl, rfl, (midVisit_inv hcps hj).1, ?_, ?_⟩
    · rw [input_midVisit, inputAt_later]
    · rw [Nat.add_assoc, Nat.add_left_cancel_iff]
      exact midVisit_atAdvance_iff hcps hj

end Sys2Proof.Machine
end

section
/-!
PROOFS of 60_exceptions.md: when a step faults, and what a fault does to the run.

A step has two outcomes and no third: a next state, or the fault of the state check (`step_next_or_fault`). What a step
leads to is legal, so the run after it is endless (`exists_run_of_inv`), and the first edge alone can fault.
-/

namespace Sys2Proof.Machine

/-! ### The outcome of a step -/

/-- R146: the state check gives a fault on the illegal states. -/
theorem exists_stateCheck_eq_some_iff (s : State) : (∃ f, stateCheck s = some f) ↔ ¬s.Legal := by
  rw [← stateCheck_eq_none_iff, ← ne_eq, Option.ne_none_iff_exists']

/-- R141, R13: a step answers a next state, or with `rst` = 0 the fault of the state check. -/
theorem step_next_or_fault (s : State) :
    (∃ t, step s = .next t) ∨ (s.input.rst = false ∧ ∃ f, stateCheck s = some f ∧ step s = .fault f) := by
  by_cases hl : s.Legal
  · exact .inl (exists_step_of_legal hl)
  · obtain ⟨f, hf⟩ := (exists_stateCheck_eq_some_iff s).mpr hl
    cases hr : s.input.rst with
    | true => exact .inl ⟨_, step_of_rst hr⟩
    | false => exact .inr ⟨rfl, f, hf, step_of_illegal hr hf⟩

/-- R141, R174: the fault of a step is the state check's, and `rst` = 1 masks it. -/
theorem step_eq_fault_iff (s : State) (f : Fault) :
    step s = .fault f ↔ s.input.rst = false ∧ stateCheck s = some f := by
  constructor
  · intro h
    obtain ⟨t, ht⟩ | ⟨hr, g, hg, hstep⟩ := step_next_or_fault s
    · cases ht.symm.trans h
    · cases hstep.symm.trans h
      exact ⟨hr, hg⟩
  · rintro ⟨hr, hf⟩
    exact step_of_illegal hr hf

/-- R171: with `rst` = 0 the illegal states are those on which a step faults. -/
theorem exists_step_eq_fault_iff (s : State) :
    (∃ f, step s = .fault f) ↔ s.input.rst = false ∧ ¬s.Legal := by
  simp only [step_eq_fault_iff, exists_and_left, exists_stateCheck_eq_some_iff]

/-- R13: nothing is refused at run time. -/
theorem step_ne_refused (s : State) (r : Refusal) : step s ≠ .refused r := by
  obtain ⟨t, ht⟩ | ⟨_, f, _, hstep⟩ := step_next_or_fault s
  · rw [ht]
    nofun
  · rw [hstep]
    nofun

/-! ### The run that a fault ends -/

/-- R172: no edge follows a fault, so a longer run ends in the same one. -/
theorem run_add_of_fault {k : Nat} {s : State} {f : Fault} (h : run k s = .fault f) (j : Nat) :
    run (k + j) s = .fault f := by
  rw [run_add, h, andThen_fault]

/-- R150: after an edge that answers a next state no edge faults, since the invariant holds from there on. -/
theorem exists_run_succ_of_step {s t : State} (hcps : 1 ≤ s.params.cps) (h : step s = .next t) (k : Nat) :
    ∃ u, run (k + 1) s = .next u := by
  obtain ⟨u, hu, _⟩ := exists_run_of_inv k (step_inv hcps h)
  exact ⟨u, by rw [run_succ, h, andThen_next, hu]⟩

/-- R172: a run that faults has faulted at its first edge. -/
theorem step_eq_fault_of_run {k : Nat} {s : State} {f : Fault} (hcps : 1 ≤ s.params.cps) (h : run k s = .fault f) :
    step s = .fault f := by
  cases k with
  | zero => cases h
  | succ k =>
    obtain ⟨t, ht⟩ | ⟨_, g, _, hstep⟩ := step_next_or_fault s
    · obtain ⟨u, hu⟩ := exists_run_succ_of_step hcps ht k
      cases hu.symm.trans h
    · rw [run_succ, hstep, andThen_fault] at h
      rw [hstep, h]

/-- Settles O42. -/
theorem faultEndsTheRun : Obligations.FaultEndsTheRun :=
  ⟨step_eq_fault_iff, exists_step_eq_fault_iff, step_ne_refused, fun _ j _ _ h => run_add_of_fault h j,
    fun _ _ _ hcps h => step_eq_fault_of_run hcps h⟩

end Sys2Proof.Machine
end

section
/-!
PROOFS of 70_reset_and_hazards.md: what RESET forgets.
-/

namespace Sys2Proof.Machine

/-! ### The registers and lamps before an entry or a RESET -/

/-- R142, R145: entering a phase overwrites the registers and lamps, so what it leaves depends on the rest of the state. -/
theorem entered_congr (p : Phase) {s u : State} (hparams : u.params = s.params) (hstim : u.stimulus = s.stimulus)
    (hcycle : u.cycle = s.cycle) : entered p u = entered p s := by
  rw [entered, entered, hparams, hstim, hcycle]

/-- R7, R178: the environment drives the inputs of a cycle, whatever its registers hold. -/
theorem input_congr {s u : State} (hstim : u.stimulus = s.stimulus) (hcycle : u.cycle = s.cycle) : u.input = s.input := by
  rw [State.input, State.input, hstim, hcycle]

/-- R201: an edge that samples `rst` = 1 takes two machines that differ in registers and lamps alone to one state. -/
theorem step_congr_of_rst {s u : State} (hr : s.input.rst = true) (hparams : u.params = s.params)
    (hstim : u.stimulus = s.stimulus) (hcycle : u.cycle = s.cycle) : step u = step s := by
  have hru : u.input.rst = true := by rw [input_congr hstim hcycle, hr]
  rw [step_of_rst hr, step_of_rst hru, entered_congr .secondaryGo hparams hstim hcycle]

/-! ### The registers and lamps after a RESET -/

/-- R125: SecondaryGo is no walk phase, so its word leaves both walk lamps off. -/
theorem rom_secondaryGo_walkLamps_off :
    (rom .secondaryGo).chanB.getLsbD 4 = false ∧ (rom .secondaryGo).chanB.getLsbD 5 = false := by
  decide

/-- Settles O55: the next state is SecondaryGo entered afresh, with its dwell and its lamps. -/
theorem resetForgetsEveryRegister : Obligations.ResetForgetsEveryRegister := by
  intro s ph sl pr w hr
  have hforgets : step { s with phase := ph, secLeft := sl, pre := pr, romData := w } = step s :=
    step_congr_of_rst hr rfl rfl rfl
  obtain ⟨hwalkP, hwalkS⟩ := rom_secondaryGo_walkLamps_off
  exact ⟨hforgets, _, step_of_rst hr, rfl, rfl, rfl, rfl, rfl, hwalkP, hwalkS⟩

end Sys2Proof.Machine
end

section
/-!
PROOFS of 30_encoding.md, continued: the decoder and the encoder are inverse to each other.

In each format the decoder maps the addresses of the format's width to instructions, and `encode` maps these back
(`encode_decodeLutAddr`, `encode_decodeRomAddr`, `encode_decodeSeqSel`). A word is an address of its format exactly when it
is well formed (`word_cases`).
-/

namespace Sys2Proof.Machine

/-! ### Words within the width -/

/-- R60: the word of a LUT address is decoded by the LUT's decoder. -/
@[simp] theorem decode_lutWord (a : BitVec 7) : decode (lutWord a.toNat) = .ok (decodeLutAddr a) := by
  have hwf : (lutWord a.toNat).wf = true := decide_eq_true a.isLt
  exact (if_pos hwf).trans (by rw [lutWord, BitVec.ofNat_toNat, BitVec.setWidth_eq])

/-- R60: the word of a ROM address is decoded by the ROM's decoder. -/
@[simp] theorem decode_romWord (a : PhaseCode) : decode (romWord a.toNat) = .ok (decodeRomAddr a) := by
  have hwf : (romWord a.toNat).wf = true := decide_eq_true a.isLt
  exact (if_pos hwf).trans (by rw [romWord, BitVec.ofNat_toNat, BitVec.setWidth_eq])

/-- R60: the word of a selector is decoded by the sequencer's decoder. -/
@[simp] theorem decode_seqWord (sel : BitVec 3) : decode (seqWord sel.toNat) = .ok (decodeSeqSel sel) := by
  have hwf : (seqWord sel.toNat).wf = true := decide_eq_true sel.isLt
  exact (if_pos hwf).trans (by rw [seqWord, BitVec.ofNat_toNat, BitVec.setWidth_eq])

/-- R60: a well formed word is an address of one of the three formats. -/
theorem word_cases {w : CodeWord} (hwf : w.wf = true) :
    (∃ a : BitVec 7, w = lutWord a.toNat) ∨ (∃ a : PhaseCode, w = romWord a.toNat) ∨
      ∃ sel : BitVec 3, w = seqWord sel.toNat := by
  obtain ⟨format, bits⟩ := w
  have hlt : bits < 2 ^ format.width := of_decide_eq_true hwf
  cases format with
  | lutAddr => exact .inl ⟨BitVec.ofNatLT bits hlt, rfl⟩
  | romAddr => exact .inr (.inl ⟨BitVec.ofNatLT bits hlt, rfl⟩)
  | seqSel => exact .inr (.inr ⟨BitVec.ofNatLT bits hlt, rfl⟩)

/-- R67: a well formed word has a meaning. -/
theorem exists_decode_of_wf {w : CodeWord} (hwf : w.wf = true) : ∃ i, decode w = .ok i := by
  obtain ⟨a, rfl⟩ | ⟨a, rfl⟩ | ⟨sel, rfl⟩ := word_cases hwf
  · exact ⟨_, decode_lutWord a⟩
  · exact ⟨_, decode_romWord a⟩
  · exact ⟨_, decode_seqWord sel⟩

/-! ### Words beyond the width -/

/-- The name under which a format's decoder rejects a word. -/
def tooWide : Format → DecodeError
  | .lutAddr => .lutAddrTooWide
  | .romAddr => .romAddrTooWide
  | .seqSel => .seqSelTooWide

/-- R60, R68: a word with a bit beyond its format's width is rejected with the format's name. -/
theorem decode_of_not_wf {w : CodeWord} (hwf : w.wf = false) : decode w = .error (tooWide w.format) := by
  obtain ⟨format, bits⟩ := w
  cases format <;> simp only [decode, hwf, tooWide] <;> rfl

theorem wf_of_decode {w : CodeWord} {i : Instr} (h : decode w = .ok i) : w.wf = true := by
  cases hwf : w.wf with
  | true => rfl
  | false => cases (decode_of_not_wf hwf).symm.trans h

/-- Settles O3. -/
theorem decoderMeansEveryWordOfItsWidth : Obligations.DecoderMeansEveryWordOfItsWidth := by
  refine fun w => ⟨exists_decode_of_wf, fun hwf hf => ?_, fun hwf hf => ?_, fun hwf hf => ?_⟩ <;>
    rw [decode_of_not_wf hwf, hf] <;> rfl

/-! ### Encoding what was decoded -/

/-- R46: a LUT address is a phase code and a condition, side by side. -/
theorem lutAddr_extract (a : BitVec 7) : lutAddr (a.extractLsb' 4 3) (a.extractLsb' 0 4) = a :=
  (BitVec.extractLsb'_append_extractLsb'_eq_extractLsb' rfl).trans BitVec.extractLsb'_eq_self

theorem decodeLutAddr_code (p : Phase) (c : Cond) :
    decodeLutAddr (lutAddr p.code c) = (lutRowInstrs p).get c.toFin := by
  simp only [decodeLutAddr, lutAddr_phase, lutAddr_cond, ofCode_code]

/-- R108: the addresses of row 7 are the illegal ones. -/
theorem decodeLutAddr_seven (c : Cond) : decodeLutAddr (lutAddr 7 c) = .lutIllegal c := by
  simp only [decodeLutAddr, lutAddr_phase, lutAddr_cond, (ofCode_eq_none_iff 7).mpr rfl]

/-- R46: entry `c` of a row is encoded as `c` more than the row's first address. -/
theorem encode_lutRowInstrs (p : Phase) : ∀ c : Cond,
    encode ((lutRowInstrs p).get c.toFin) = lutWord (16 * p.code.toNat + c.toNat) := by
  cases p <;> decide

/-- R46: the encoder gives a LUT address back. -/
theorem encode_decodeLutAddr (a : BitVec 7) : encode (decodeLutAddr a) = lutWord a.toNat := by
  rw [← lutAddr_extract a]
  generalize a.extractLsb' 4 3 = code, a.extractLsb' 0 4 = c
  obtain ⟨p, rfl, _⟩ | ⟨rfl, _⟩ := ofCode_cases code
  · rw [decodeLutAddr_code, encode_lutRowInstrs, lutAddr_toNat]
  · rw [decodeLutAddr_seven, lutAddr_toNat]
    rfl

/-- R62: the encoder gives a ROM address back. -/
theorem encode_decodeRomAddr (a : PhaseCode) : encode (decodeRomAddr a) = romWord a.toNat := by
  obtain ⟨p, rfl, _⟩ | ⟨rfl, _⟩ := ofCode_cases a
  · cases p <;> rfl
  · rfl

/-- R65: the encoder gives a selector back, the bits outside the operation's mask included. -/
theorem encode_decodeSeqSel : ∀ sel : BitVec 3, encode (decodeSeqSel sel) = seqWord sel.toNat := by
  decide

/-- Settles O2: a word that decodes is well formed, so it is an address of its format. -/
theorem encodeOfDecodeIsIdentity : Obligations.EncodeOfDecodeIsIdentity := by
  intro w i h
  obtain ⟨a, rfl⟩ | ⟨a, rfl⟩ | ⟨sel, rfl⟩ := word_cases (wf_of_decode h)
  · obtain rfl := Except.ok.inj ((decode_lutWord a).symm.trans h)
    exact encode_decodeLutAddr a
  · obtain rfl := Except.ok.inj ((decode_romWord a).symm.trans h)
    exact encode_decodeRomAddr a
  · obtain rfl := Except.ok.inj ((decode_seqWord sel).symm.trans h)
    exact encode_decodeSeqSel sel

/-! ### Decoding what was encoded -/

/-- R46, R108: every address of row 7 is decoded with its own condition. -/
theorem decode_lutRowSeven (c : Cond) : decode (lutWord (0x70 + c.toNat)) = .ok (.lutIllegal c) := by
  have haddr : 0x70 + c.toNat = (lutAddr 7 c).toNat := (lutAddr_toNat 7 c).symm
  rw [haddr, decode_lutWord, decodeLutAddr_seven]

/-- R46, R62, R65: a row without operands has one word, which the decoder reads as that row; the others are split by their
operands. -/
theorem decode_encode (i : Instr) : decode (encode i) = .ok i := by
  cases i with
  | lutIllegal c => exact decode_lutRowSeven c
  | seqReset secEnd lastSec => cases secEnd <;> cases lastSec <;> rfl
  | seqCount lastSec => cases lastSec <;> rfl
  | _ => rfl

/-- Settles O1: an encoding is read back, and only well formed words are read at all. -/
theorem decodeOfEncodeIsIdentity : Obligations.DecodeOfEncodeIsIdentity :=
  fun i => ⟨wf_of_decode (decode_encode i), decode_encode i⟩

/-- Settles O8: each written word is the encoding of its instruction. -/
theorem writtenWordsDecode : Obligations.WrittenWordsDecode :=
  ⟨decode_encode .lutPrimaryGo4, decode_encode .lutSecondaryGoShort9, decode_encode (.lutIllegal 0b0101),
    decode_encode .romPrimaryWalk, decode_encode .romIllegal, decode_encode .seqAdvance, decode_encode .seqSecond,
    decode_encode (.seqCount true), decode_encode (.seqReset true false)⟩

end Sys2Proof.Machine
end

section
/-!
PROOFS of 40_phase_rom.md and 41_transition_lut.md, continued: what the rows of the two tables do as instructions.

The tabled rows of the obligations are computed from the tables (`romRow`, `lutEntries`), so one lemma for each table says
what all its rows do.
-/

namespace Sys2Proof.Machine

/-! ### The rows of the ROM -/

/-- The row of R80 to R86 for a phase: its address, its instruction, the phase, and its word by fields. -/
def romRow (p : Phase) : Nat × Instr × Phase × Seconds × Channel × Channel :=
  (p.code.toNat, decodeRomAddr p.code, p, (rom p).dwell, (rom p).chanA, (rom p).chanB)

/-- Settles O9: the listed rows are those of the seven phases, in the order of their codes. -/
theorem romReadsDriveTheirWords : Obligations.RomReadsDriveTheirWords := by
  intro e he
  obtain ⟨p, _, rfl⟩ : ∃ p ∈ [Phase.secondaryGo, .secondaryWait, .primaryGo, .primaryWait, .secondaryWalk,
      .primaryWalk, .secondaryGoShort], romRow p = e := List.mem_map.mp he
  exact ⟨decode_romWord p.code, rfl, exec_romRead p⟩

/-- R146, R171: a cycle with phase code 7 and `rst` = 0 faults. -/
theorem step_of_phase_seven {s : State} (h7 : s.phase = 7) (hr : s.input.rst = false) :
    step s = .fault (.illegalPhase s.record) :=
  step_of_illegal hr (stateCheck_of_phase_seven h7)

/-- R87: the illegal ROM row is a fault and nothing else. -/
theorem exec_romIllegal (s : State) : exec .romIllegal s = .fault (.illegalPhase s.record) := rfl

/-- Settles O10. -/
theorem romAddressSevenFaults : Obligations.RomAddressSevenFaults :=
  ⟨decode_encode .romIllegal, exec_romIllegal, fun _ => step_of_phase_seven⟩

/-! ### The rows of the LUT -/

/-- The row of R101 to R107 for a phase: the address, the instruction and the successor of each of its sixteen entries. -/
def lutEntries (p : Phase) : List (Nat × Instr × Phase) :=
  [0x0, 0x1, 0x2, 0x3, 0x4, 0x5, 0x6, 0x7, 0x8, 0x9, 0xA, 0xB, 0xC, 0xD, 0xE, 0xF].map fun c : Cond =>
    ((lutAddr p.code c).toNat, decodeLutAddr (lutAddr p.code c), lut p c)

/-- R46, R145: every entry of a row is decoded from its address, and running it enters its successor. -/
theorem lutEntries_run (p : Phase) : ∀ e ∈ lutEntries p,
    decode (lutWord e.1) = .ok e.2.1 ∧ ∀ s : State, exec e.2.1 s = .next (entered e.2.2 s) := by
  intro e he
  obtain ⟨c, _, rfl⟩ := List.mem_map.mp he
  exact ⟨decode_lutWord _, exec_lutEntry p c⟩

/-- Settles O15. -/
theorem lutRowSecondaryGo : Obligations.LutRowSecondaryGo :=
  ⟨lutEntries_run .secondaryGo, fun _ => exec_seqAdvance (p := .secondaryGo), by decide⟩

/-- Settles O16. -/
theorem lutRowSecondaryWait : Obligations.LutRowSecondaryWait :=
  ⟨lutEntries_run .secondaryWait, fun _ => exec_seqAdvance (p := .secondaryWait), by decide⟩

/-- Settles O17. -/
theorem lutRowPrimaryGo : Obligations.LutRowPrimaryGo :=
  ⟨lutEntries_run .primaryGo, fun _ => exec_seqAdvance (p := .primaryGo), by decide⟩

/-- Settles O18. -/
theorem lutRowPrimaryWait : Obligations.LutRowPrimaryWait :=
  ⟨lutEntries_run .primaryWait, fun _ => exec_seqAdvance (p := .primaryWait), by decide⟩

/-- Settles O19. -/
theorem lutRowSecondaryWalk : Obligations.LutRowSecondaryWalk :=
  ⟨lutEntries_run .secondaryWalk, fun _ => exec_seqAdvance (p := .secondaryWalk), by decide⟩

/-- Settles O20. -/
theorem lutRowPrimaryWalk : Obligations.LutRowPrimaryWalk :=
  ⟨lutEntries_run .primaryWalk, fun _ => exec_seqAdvance (p := .primaryWalk), by decide⟩

/-- Settles O21. -/
theorem lutRowSecondaryGoShort : Obligations.LutRowSecondaryGoShort :=
  ⟨lutEntries_run .secondaryGoShort, fun _ => exec_seqAdvance (p := .secondaryGoShort), by decide⟩

/-- R108: an entry of row 7 is a fault and nothing else, whatever its condition. -/
theorem exec_lutIllegal (c : Cond) (s : State) : exec (.lutIllegal c) s = .fault (.illegalPhase s.record) := rfl

/-- Settles O22. -/
theorem lutRowSevenFaults : Obligations.LutRowSevenFaults :=
  ⟨decode_lutRowSeven, exec_lutIllegal, fun _ => step_of_phase_seven⟩

/-! ### The edges without a yellow or a red visit between -/

/-- R145, R120, R121: at an ADVANCE edge the lamps go from the word of the phase to the word of its successor. -/
theorem step_advance_ports {s : State} {p q : Phase} (hs : s.Inv) (ha : s.AtAdvance) (hr : s.input.rst = false)
    (hp : s.phase = p.code) (hq : lut p s.input.cond = q) :
    ∃ t, step s = .next t ∧ s.roadA = (rom p).chanA ∧ t.roadA = (rom q).chanA ∧ s.roadB = (rom p).chanB ∧
      t.roadB = (rom q).chanB := by
  obtain ⟨hl, hc⟩ := hs
  have hrom := romData_of_consistent hc hp
  subst hq
  exact ⟨_, step_advance hr hl ha hp, congrArg RomWord.chanA hrom, rfl, congrArg RomWord.chanB hrom, rfl⟩

/-- R112: the conditions under which SecondaryWait is followed by PrimaryWalk. -/
theorem lut_secondaryWait_eq_primaryWalk :
    ∀ c ∈ [(0x2 : Cond), 0x3, 0x6, 0x7, 0xA, 0xB, 0xF], lut .secondaryWait c = .primaryWalk := by
  decide

/-- Settles O26: PrimaryGo with condition 4 and SecondaryWait with seven conditions are followed by PrimaryWalk. -/
theorem greenToRedWithoutYellow : Obligations.GreenToRedWithoutYellow := by
  refine ⟨fun s hs ha hr hp hc => ?_, fun s hs ha hr hp hc => ?_⟩
  · have hq : lut .primaryGo s.input.cond = .primaryWalk := by rw [hc]; rfl
    exact step_advance_ports (p := .primaryGo) hs ha hr hp hq
  · have hq := lut_secondaryWait_eq_primaryWalk _ hc
    obtain ⟨t, ht, _, _, hB, hB'⟩ := step_advance_ports (p := .secondaryWait) hs ha hr hp hq
    exact ⟨t, ht, hB, hB'⟩

end Sys2Proof.Machine
end

section
/-!
PROOFS of 43_dwell_sequencer.md, continued: what a step runs (the selected operation, the addressed LUT entry, the placed
table word, the ROM read of the next cycle), the invariant, the register `phase`, and the operations off their conditions.
-/

namespace Sys2Proof.Machine

/-! ### The words of a cycle -/

theorem decode_seqSelWord (s : State) : decode s.seqSelWord = .ok (fetchSeq s) := decode_seqWord s.selector

theorem decode_lutAddrWord (s : State) : decode s.lutAddrWord = .ok (fetchLut s) := decode_lutWord _

theorem decode_romAddrWord (s : State) : decode s.romAddrWord = .ok (fetchRom s) := decode_romWord s.phase

/-- R67: a word has one meaning. -/
theorem eq_of_decode {w : CodeWord} {i j : Instr} (hi : decode w = .ok i) (hj : decode w = .ok j) : i = j :=
  Except.ok.inj (hi.symm.trans hj)

/-- R100: running the LUT entry that the cycle addresses enters the successor under the sampled condition. -/
theorem exec_fetchLut {s : State} {p : Phase} (hp : s.phase = p.code) :
    exec (fetchLut s) s = .next (entered (lut p s.input.cond) s) := by
  rw [fetchLut, hp]
  exact exec_lutEntry p s.input.cond s

/-- R108: in phase code 7 the cycle addresses an entry of the illegal row. -/
theorem fetchLut_of_phase_seven {s : State} (h7 : s.phase = 7) : fetchLut s = .lutIllegal s.sample := by
  rw [fetchLut, h7, decodeLutAddr_seven]

/-- R120, R121: running the ROM row that the cycle addresses puts the phase's word on the data output. -/
theorem exec_fetchRom {s : State} {p : Phase} (hp : s.phase = p.code) : exec (fetchRom s) s = .next (readRom p s) := by
  rw [fetchRom, hp]
  exact exec_romRead p s

/-- R87: the ROM row that a cycle addresses is read to the end in one of the seven phases alone. -/
theorem exists_phase_of_exec_fetchRom {t u : State} (h : exec (fetchRom t) t = .next u) :
    ∃ p : Phase, t.phase = p.code := by
  refine exists_code_of_ne_seven fun h7 => ?_
  rw [fetchRom, h7] at h
  cases (exec_romIllegal t).symm.trans h

/-! ### The environment -/

/-- R11, R178: every kind of step uses up the input of its cycle and writes no parameter. -/
theorem step_environment {s t : State} (h : step s = .next t) :
    t.params = s.params ∧ t.stimulus = s.stimulus.tail ∧ t.cycle = s.cycle + 1 := by
  refine ⟨step_params h, ?_⟩
  obtain ⟨_, rfl⟩ | ⟨_, _, _, _, hkind⟩ := step_cases h
  · exact ⟨rfl, rfl⟩
  · obtain ⟨_, _, rfl⟩ | ⟨_, _, rfl⟩ | ⟨_, rfl⟩ := hkind <;> exact ⟨rfl, rfl⟩

/-- Settles O56. -/
theorem stepLeavesTheParameters : Obligations.StepLeavesTheParameters := fun _ _ => step_environment

/-! ### The selected operation -/

/-- R174: with `rst` = 1 or from a legal state no fault stops the edge. -/
theorem exists_step_of_rst_or_legal {s : State} (h : s.input.rst = true ∨ s.Legal) : ∃ u, step s = .next u :=
  h.elim (fun hr => ⟨_, step_of_rst hr⟩) exists_step_of_legal

/-- R141: a step that answers a next state ran the selected operation, and after it the ROM read of the phase it left. -/
theorem exec_fetchSeq_of_step {s u : State} (h : step s = .next u) :
    ∃ (t : State) (p : Phase), exec (fetchSeq s) s = .next t ∧ t.phase = p.code ∧ u = tick (readRom p t) := by
  unfold step at h
  split at h
  · cases h
  · obtain ⟨t, ht, hread⟩ := andThen_eq_next h
    obtain ⟨v, hv, htick⟩ := andThen_eq_next hread
    obtain ⟨p, hp⟩ := exists_phase_of_exec_fetchRom hv
    cases (exec_fetchRom hp).symm.trans hv
    cases htick
    exact ⟨t, p, ht, hp, rfl⟩

/-- Settles O36: the input used up is that of the cycle of `s`, since no operation writes the inputs. -/
theorem stepRunsTheSelectedOperation : Obligations.StepRunsTheSelectedOperation := by
  intro s i hs hi
  obtain rfl := eq_of_decode (decode_seqSelWord s) hi
  obtain ⟨u, hu⟩ := exists_step_of_rst_or_legal hs
  obtain ⟨t, p, ht, hp, rfl⟩ := exec_fetchSeq_of_step hu
  obtain ⟨_, hstim, hcycle⟩ := step_environment hu
  refine ⟨t, p, ht, hp, ?_⟩
  rw [hu, ← hstim, ← hcycle]
  rfl

/-! ### The addressed LUT entry and the placed table word -/

/-- Settles O37. -/
theorem advanceEdgeRunsTheAddressedLutEntry : Obligations.AdvanceEdgeRunsTheAddressedLutEntry := by
  intro s i hr hl ha hi
  obtain rfl := eq_of_decode (decode_lutAddrWord s) hi
  obtain ⟨p, hp⟩ := exists_code_of_ne_seven hl.1
  exact ⟨_, exec_fetchLut hp, step_advance hr hl ha hp⟩

/-- R100, R108: at an ADVANCE edge that is legal in all but perhaps the phase, the step is the addressed LUT entry: its
transition, or in row 7 its fault. -/
theorem step_eq_exec_fetchLut {s : State} (hr : s.input.rst = false) (ha : s.AtAdvance) (hl : s.phase ≠ 7 → s.Legal) :
    step s = andThen (exec (fetchLut s) s) fun t => .next (afterCycle t) := by
  by_cases h7 : s.phase = 7
  · rw [step_of_phase_seven h7 hr, fetchLut_of_phase_seven h7, exec_lutIllegal, andThen_fault]
  · obtain ⟨p, hp⟩ := exists_code_of_ne_seven h7
    rw [step_advance hr (hl h7) ha hp, exec_fetchLut hp, andThen_next]

/-- Log entry 3: placing a table word makes the cycle address the word's low seven bits in the LUT. -/
theorem fetchLut_withFetchWord (s : State) (w : Nat) :
    fetchLut (s.withFetchWord 8 w) = decodeLutAddr (BitVec.ofNat 7 (tableLutBits w)) :=
  congrArg decodeLutAddr (lutAddr_extract (BitVec.ofNat 7 (tableLutBits w)))

/-- Log entry 3: a byte's low seven bits are a LUT address, so the table decoder reads it with the LUT's decoder. -/
theorem decodeTableWord_eight (w : Nat) :
    decodeTableWord 8 w = some (decodeLutAddr (BitVec.ofNat 7 (tableLutBits w))) := by
  have hlt : tableLutBits w < 2 ^ 7 := Nat.mod_lt w (by decide)
  have hdecode := decode_lutWord (BitVec.ofNat 7 (tableLutBits w))
  rw [BitVec.toNat_ofNat, Nat.mod_eq_of_lt hlt, lutWord] at hdecode
  rw [decodeTableWord, if_pos (by decide), hdecode]

/-- Settles O39: with `CPS` = 1 the placed cycle is the last of its visit, whatever its phase. -/
theorem placedTableWordRunsNext : Obligations.PlacedTableWordRunsNext := by
  intro s w i hi
  obtain rfl := Option.some.inj ((decodeTableWord_eight w).symm.trans hi)
  have hlegal : (s.withFetchWord 8 w).phase ≠ 7 → (s.withFetchWord 8 w).Legal := fun h7 =>
    ⟨h7, (by decide : (1 : Seconds) ≠ 0), Nat.one_pos⟩
  rw [← fetchLut_withFetchWord s w]
  exact step_eq_exec_fetchLut rfl ⟨rfl, rfl⟩ hlegal

/-! ### The ROM read of the next cycle -/

/-- R120: reading a word that is on the data output changes nothing. -/
theorem readRom_eq_self {p : Phase} {t : State} (hrom : t.romData = rom p) : readRom p t = t := by
  rw [readRom, State.setRomData, ← hrom]

/-- Settles O38. -/
theorem everyCycleReadsItsRomWord : Obligations.EveryCycleReadsItsRomWord := by
  intro s t h
  obtain ⟨p, hphase, hrom⟩ := step_phase_romData h
  refine ⟨fetchRom t, decode_romAddrWord t, ?_⟩
  rw [exec_fetchRom hphase, readRom_eq_self hrom]

/-! ### The invariant -/

/-- Settles O51. -/
theorem everyNextStateIsLegal : Obligations.EveryNextStateIsLegal := fun _ _ => step_inv

/-- Settles O50: a legal prescaler bounds `CPS` from below. -/
theorem stepKeepsTheInvariant : Obligations.StepKeepsTheInvariant := fun _ _ hs => step_inv (one_le_cps hs.1)

/-- Settles O52. -/
theorem resetStateIsLegal : Obligations.ResetStateIsLegal :=
  ⟨rfl, rfl, rfl, rfl, rfl, rfl, rfl, rfl, Nat.succ_pos Config.cpsPred, reset_inv []⟩

/-! ### The register `phase` -/

/-- Settles O43. -/
theorem phaseChangesOnlyAtResetAndAdvance : Obligations.PhaseChangesOnlyAtResetAndAdvance := by
  intro s t h
  obtain ⟨hr, rfl⟩ | ⟨hr, _, p, hp, hkind⟩ := step_cases h
  · exact ⟨fun _ => rfl, fun h0 => absurd (hr.symm.trans h0) nofun, fun h0 => absurd (hr.symm.trans h0) nofun⟩
  · refine ⟨fun h1 => absurd (hr.symm.trans h1) nofun, ?_⟩
    obtain ⟨hpre, h1, rfl⟩ | ⟨_, h1, rfl⟩ | ⟨hpre, rfl⟩ := hkind
    · exact ⟨fun _ _ => ⟨p, hp, rfl⟩, fun _ hna => absurd ⟨hpre, h1⟩ hna⟩
    · exact ⟨fun _ ha => absurd ha.2 h1, fun _ _ => rfl⟩
    · exact ⟨fun _ ha => absurd ha.1 hpre, fun _ _ => rfl⟩

/-! ### The operations off their conditions -/

/-- R108: ADVANCE finds no LUT row in phase code 7. -/
theorem exec_seqAdvance_of_phase_seven {s : State} (h7 : s.phase = 7) :
    exec .seqAdvance s = .fault (.illegalPhase s.record) := by
  change execSeqAdvance s = _
  rw [execSeqAdvance, (ofCode_eq_none_iff s.phase).mpr h7]
  rfl

/-- Settles O58. -/
theorem operationsOffTheirConditions : Obligations.OperationsOffTheirConditions :=
  ⟨exec_seqSecond, exec_seqCount, fun _ => exec_seqAdvance_of_phase_seven⟩

end Sys2Proof.Machine
end

section
/-!
PROOFS of 43_dwell_sequencer.md and 30_encoding.md, over runs, continued: a run depends on its samples alone, and the
expansion of a dwell-level program samples the program's conditions.
-/

namespace Sys2Proof.Machine

/-! ### Two environments for one run -/

/-- R149: a step takes from the environment `rst`, and at an ADVANCE edge with `rst` = 0 the condition. -/
theorem step_withStimulus {s t : State} {other : CycleProgram} (h : step s = .next t)
    (hrst : s.input.rst = (State.input { s with stimulus := other }).rst)
    (hcond : s.AtAdvance → s.input.rst = false → s.input.cond = (State.input { s with stimulus := other }).cond) :
    step { s with stimulus := other } = .next { t with stimulus := other.tail } := by
  obtain ⟨hr, rfl⟩ | ⟨hr, hl, p, hp, hkind⟩ := step_cases h
  · rw [step_of_rst (hrst.symm.trans hr)]
    rfl
  · rw [step_of_legal (hrst.symm.trans hr) hl hp]
    dsimp only
    obtain ⟨hpre, h1, rfl⟩ | ⟨hpre, h1, rfl⟩ | ⟨hpre, rfl⟩ := hkind
    · rw [if_pos hpre, if_pos h1, ← hcond ⟨hpre, h1⟩ hr]
      rfl
    · rw [if_pos hpre, if_neg h1]
      rfl
    · rw [if_neg hpre]
      rfl

/-- R178: `k` edges use up `k` inputs. -/
theorem run_environment {k : Nat} {s t : State} (h : run k s = .next t) :
    t.stimulus = s.stimulus.drop k ∧ t.cycle = s.cycle + k := by
  induction k generalizing t with
  | zero =>
    cases h
    exact ⟨rfl, rfl⟩
  | succ k ih =>
    rw [run_add] at h
    obtain ⟨u, hu, hlast⟩ := andThen_eq_next h
    rw [run_one] at hlast
    obtain ⟨hstim, hcycle⟩ := ih hu
    obtain ⟨_, hstim', hcycle'⟩ := step_environment hlast
    rw [hstim', hcycle', hstim, hcycle, List.tail_drop]
    exact ⟨rfl, rfl⟩

/-- R7: the input of a cycle `k` edges on is the `k`-th of the inputs to come, whatever the registers. -/
theorem input_eq_inputAt {k : Nat} {s u : State} (hstim : u.stimulus = s.stimulus.drop k)
    (hcycle : u.cycle = s.cycle + k) : u.input = s.inputAt k :=
  (input_congr hstim hcycle).trans (input_later k s)

/-- Settles O45, by induction on the edges: the last edge takes the `k`-th input of each environment. -/
theorem runDependsOnlyOnTheSamples : Obligations.RunDependsOnlyOnTheSamples := by
  intro k s t other hrst hcond h
  induction k generalizing t with
  | zero =>
    cases h
    rfl
  | succ k ih =>
    rw [run_add] at h
    obtain ⟨u, hu, hlast⟩ := andThen_eq_next h
    rw [run_one] at hlast
    have hother := ih u (fun j hj => hrst j (Nat.lt_succ_of_lt hj)) (fun j hj => hcond j (Nat.lt_succ_of_lt hj)) hu
    obtain ⟨hstim, hcycle⟩ := run_environment hu
    have hinput : u.input = s.inputAt k := input_eq_inputAt hstim hcycle
    have hinput' : State.input { u with stimulus := other.drop k } = State.inputAt { s with stimulus := other } k :=
      input_eq_inputAt rfl hcycle
    rw [run_succ_of_run hother, step_withStimulus hlast, List.tail_drop]
    · rw [hinput, hinput']
      exact hrst k (Nat.lt_succ_self k)
    · rw [hinput, hinput']
      exact hcond k (Nat.lt_succ_self k) u hu

/-! ### The expansion of a dwell-level program -/

/-- R69: inputs that begin with `n` times the same one give it in each of the first `n` cycles. -/
theorem inputAt_of_replicate {s : State} {n j : Nat} {i : Input} {rest : CycleProgram}
    (h : s.stimulus = List.replicate n i ++ rest) (hj : j < n) : s.inputAt j = i := by
  have hlt : j < (List.replicate n i).length := by rwa [List.length_replicate]
  rw [State.inputAt, h, List.getD_append _ _ _ _ hlt, List.getD_replicate _ hj]

/-- R69, R148: from the entry of `p` every entry of the program is the sample of its visit. -/
theorem run_programCycles (cs : DwellProgram) {p : Phase} {s : State} {rest : CycleProgram} (hcps : 1 ≤ s.params.cps)
    (h : s.stimulus = expand s.params.cps p cs ++ rest) :
    run (programCycles s.params.cps p cs) (entered p s) =
      .next (entered (dwellRun p cs) (later (programCycles s.params.cps p cs) s)) ∧
    (later (programCycles s.params.cps p cs) s).stimulus = rest := by
  induction cs generalizing p s with
  | nil => exact ⟨rfl, h⟩
  | cons c cs ih =>
    have hpos := visitCycles_pos p hcps
    rw [expand, List.append_assoc] at h
    have hin : ∀ j < visitCycles p s.params.cps, s.inputAt j = { rst := false, cond := c } :=
      fun j hj => inputAt_of_replicate h hj
    have hvisit := run_visitCycles (p := p) hcps fun j hj => congrArg Input.rst (hin j hj)
    rw [hin _ (Nat.sub_lt hpos Nat.one_pos)] at hvisit
    have hdrop : (later (visitCycles p s.params.cps) s).stimulus = expand s.params.cps (lut p c) cs ++ rest := by
      rw [later, h, List.drop_left' (List.length_replicate ..)]
    obtain ⟨hrun, hrest⟩ := ih (s := later (visitCycles p s.params.cps) s) hcps hdrop
    rw [later_params, later_later] at hrun hrest
    rw [programCycles, run_add, hvisit, andThen_next, dwellRun_cons]
    exact ⟨hrun, hrest⟩

/-- Settles O49. -/
theorem dwellProgramSamplesItsEntries : Obligations.DwellProgramSamplesItsEntries := by
  intro s p cs rest hp hsec hpre hrom hcps h
  obtain ⟨hrun, hrest⟩ := run_programCycles cs hcps h
  rw [entered_eq_self hp hsec hpre hrom] at hrun
  rw [hrun, ← hrest]
  rfl

end Sys2Proof.Machine
end

section
/-!
PROOFS of 10_state.md, 60_exceptions.md and 70_reset_and_hazards.md, continued: the prescaler's width, the codes of the
faults, and the lengths of the visits.
-/

namespace Sys2Proof.Machine

/-! ### The prescaler's width -/

/-- R4, R24: `PRE_W` is the least width that holds 0 to `CPS - 1`. -/
theorem le_two_pow_iff_preWidth_le (cps w : Nat) : cps ≤ 2 ^ w ↔ preWidth cps ≤ w := by
  unfold preWidth
  split
  · exact iff_of_true (‹cps ≤ 1›.trans Nat.one_le_two_pow) (Nat.zero_le w)
  · have hlog : Nat.log2 (cps - 1) < w ↔ cps - 1 < 2 ^ w := Nat.log2_lt (by omega)
    rw [Nat.succ_le_iff, hlog]
    omega

/-- R24: when `CPS` is a power of two, `PRE_W` bits hold no value from `CPS` on. -/
theorem two_pow_preWidth_le {cps : Nat} (h : ∃ w, cps = 2 ^ w) : 2 ^ preWidth cps ≤ cps := by
  obtain ⟨w, hw⟩ := h
  have hle : preWidth cps ≤ w := (le_two_pow_iff_preWidth_le cps w).mp hw.le
  exact (Nat.pow_le_pow_right Nat.two_pos hle).trans hw.ge

/-- Settles O54. -/
theorem prescalerWidthIsCeilLog : Obligations.PrescalerWidthIsCeilLog :=
  ⟨rfl, fun cps w _ => le_two_pow_iff_preWidth_le cps w, fun s n => State.setPre_pre n s, fun _ _ => setPre_of_lt,
    fun _ _ _ hlt hle hpow => absurd ((two_pow_preWidth_le hpow).trans hle) (Nat.not_le.mpr hlt)⟩

/-! ### The codes of the faults -/

/-- Settles O41. -/
theorem faultCodes : Obligations.FaultCodes := fun _ => ⟨rfl, rfl, rfl⟩

/-! ### The lengths of the visits -/

/-- R210: no dwell is longer than the 7 seconds that three bits hold. -/
theorem visitCycles_le (p : Phase) (cps : Nat) : visitCycles p cps ≤ 7 * cps :=
  Nat.mul_le_mul_right cps (Nat.le_of_lt_succ (rom p).dwell.isLt)

/-- R210: a sequence of visits takes the sum of its dwells, in seconds of `CPS` cycles. -/
theorem programCycles_eq_mul (cps : Nat) (p : Phase) (cs : DwellProgram) :
    programCycles cps p cs = programCycles 1 p cs * cps := by
  induction cs generalizing p with
  | nil => exact (Nat.zero_mul cps).symm
  | cons c cs ih => simp only [programCycles, visitCycles, ih (lut p c), Nat.mul_one, Nat.add_mul]

/-- Settles O57: with `CPS` = 1 the two example cycles take 18 and 14 cycles. -/
theorem visitLengthsAndExampleCycles : Obligations.VisitLengthsAndExampleCycles := fun cps =>
  ⟨rfl, rfl, rfl, rfl, rfl, rfl, rfl, fun p => visitCycles_le p cps, rfl, programCycles_eq_mul cps _ _, rfl,
    programCycles_eq_mul cps _ _⟩

end Sys2Proof.Machine
end
